-- ==== Sys2Proof/Word.lean ====
section
/-! DEFINITION. The word types of the block and of its bus (00_scope.md R10, R11; 10_state.md R14, R15). -/

namespace Sys2Proof

/-- The configuration word, a pointer register, a raw sample: 16 bits (R10, `WORD`). -/
abbrev Word := BitVec 16

/-- One byte on the bus (R66, R67). -/
abbrev Byte := BitVec 8

/-- The device bus address, `DEV_ADDR_BITS` = 7 bits (R10, R15). -/
abbrev BusAddr := BitVec 7

/-- The part of a configuration word the device stores, bits 14..0 (R23). -/
abbrev Stored := BitVec 15

end Sys2Proof
end

