-- ==== Sys2Proof/Config.lean ====
section
/-! DEFINITION. What the spec leaves free: the draws of 20_memory.md R54 and the operations of a `FLOAT` format other
than the two the spec computes with (43_voltage_scaling.md R111). None of the opaque constants has a body, so nothing can
be proved of a value of one. -/

namespace Sys2Proof

/-- Who acts next (00_scope.md R8): the block, or the device by one of its two autonomous steps (R102, R103). -/
inductive Agent where
  | block
  | convDone
  | contUpdate
  deriving DecidableEq, Repr, Inhabited

/-- The transport's answer to one bus call (20_memory.md R36). -/
inductive Answer where
  | ok
  | transportError
  deriving DecidableEq, Repr, Inhabited

namespace Config

/-- Free value: the agent that acts at draw `n` where no event is scripted (R49, R54 (3)). -/
opaque freeAgent : Nat → Agent

/-- Free value: the transport's answer at draw `n` (R54 (1)). -/
opaque freeAnswer : Nat → Answer

/-- Free value: `draw(16)` at draw `n` (R54 (2), R32). -/
opaque freeWord : Nat → Word

/-- Free value: `draw(1)` at draw `n` (R42, R43, R46). -/
opaque freeBit : Nat → Bool

/-- Free value: `draw(15)` at draw `n` (R46). -/
opaque freeConfig : Nat → Stored

/-- `of_decimal` of an unnamed `FLOAT` format, by gain code (R111). -/
opaque otherOfDecimal : Nat → Nat

/-- `of_nat` of an unnamed `FLOAT` format (R111). -/
opaque otherOfNat : Nat → Nat

/-- The multiply of an unnamed `FLOAT` format (R111). -/
opaque otherMul : Nat → Nat → Nat

/-- The divide of an unnamed `FLOAT` format (R111). -/
opaque otherDiv : Nat → Nat → Nat

/-- The negate of an unnamed `FLOAT` format (R111). -/
opaque otherNeg : Nat → Nat

end Config

end Sys2Proof
end

