-- ==== Sys2Proof/Syntax.lean ====
section
/-! DEFINITION. The rows of spec/opcode_table.json as one inductive, and the forms in which an encoding is presented. -/

namespace Sys2Proof

/-- The four fields of the configuration word that have a setter (30_encoding.md R56). -/
inductive Field where
  | mux
  | pga
  | mode
  | dr
  deriving DecidableEq, Repr

/-- The four pointer registers of the Register Map (00_scope.md R3; 10_state.md R21; 20_memory.md R34). -/
inductive PointerReg where
  | conversion
  | config
  | loThresh
  | hiThresh
  deriving DecidableEq, Repr

/-- One encoding as it is presented, in one of the table's formats: a command word (R69), a bus frame (R66, R67), a whole
configuration word (R55), a value of a setter's field (R57), a status value written to or read from the device (R58). -/
inductive Item where
  | command (w : BitVec 20)
  | writeFrame (w : BitVec 24)
  | readFrame (w : BitVec 8)
  | layout (w : Word)
  | value (f : Field) (w : Word)
  | statusWritten (w : Word)
  | statusRead (w : Word)
  deriving DecidableEq, Repr

/-- One constructor per row of spec/opcode_table.json: the nine commands (30_encoding.md R70), the three bus frames (R66,
R67), the layout row (R55) and the field values (R58 to R62). -/
inductive Instr where
  | initialise (a : Word)
  | setInputMux (v : Word)
  | setGain (v : Word)
  | setMode (v : Word)
  | setDataRate (v : Word)
  | commit
  | refresh
  | readSample
  | toVolts (raw : Word)
  | regWrite (v : Word)
  | regReadConfig
  | regReadConversion
  | cfgWord (w : Word)
  | muxDiff01
  | muxDiff03
  | muxDiff13
  | muxDiff23
  | muxSingle0
  | muxSingle1
  | muxSingle2
  | muxSingle3
  | pga6144
  | pga4096
  | pga2048
  | pga1024
  | pga0512
  | pga0256
  | modeContinuous
  | modeSingleShot
  | rate8
  | rate16
  | rate32
  | rate64
  | rate128
  | rate250
  | rate475
  | rate860
  | statusStart
  | statusBusy
  | statusReady
  deriving DecidableEq, Repr

end Sys2Proof
end

