-- ==== Sys2Proof/WellFormed.lean ====
section
/-! DEFINITION. Which instructions have an encoding: the one operand check that the command word makes (30_encoding.md R70,
R72). A setter's operand outside its enumeration is encodable and is rejected when it runs (R76), so it is well formed. -/

namespace Sys2Proof

/-- Bits 15..7 of Initialize's operand are zero (R70); every other operand fills its encoding. -/
def Instr.wellFormedB : Instr → Bool
  | .initialise a => a >>> 7 == 0#16
  | .setInputMux _ => true
  | .setGain _ => true
  | .setMode _ => true
  | .setDataRate _ => true
  | .commit => true
  | .refresh => true
  | .readSample => true
  | .toVolts _ => true
  | .regWrite _ => true
  | .regReadConfig => true
  | .regReadConversion => true
  | .cfgWord _ => true
  | .muxDiff01 => true
  | .muxDiff03 => true
  | .muxDiff13 => true
  | .muxDiff23 => true
  | .muxSingle0 => true
  | .muxSingle1 => true
  | .muxSingle2 => true
  | .muxSingle3 => true
  | .pga6144 => true
  | .pga4096 => true
  | .pga2048 => true
  | .pga1024 => true
  | .pga0512 => true
  | .pga0256 => true
  | .modeContinuous => true
  | .modeSingleShot => true
  | .rate8 => true
  | .rate16 => true
  | .rate32 => true
  | .rate64 => true
  | .rate128 => true
  | .rate250 => true
  | .rate475 => true
  | .rate860 => true
  | .statusStart => true
  | .statusBusy => true
  | .statusReady => true

/-- The instruction has an encoding. -/
abbrev Instr.WellFormed (i : Instr) : Prop := i.wellFormedB = true

end Sys2Proof
end

