-- ==== Sys2Proof/Decode.lean ====
section
/-! DEFINITION. The encodings of 30_encoding.md: fields, masks and legality (R55 to R64), the decoder of every presented
form, and the encoder. -/

namespace Sys2Proof

/-! ### Fields of the configuration word -/

/-- The mask of a setter's field (R55). -/
def Field.mask : Field → Word
  | .mux => 0x7000#16
  | .pga => 0x0E00#16
  | .mode => 0x0100#16
  | .dr => 0x00E0#16

/-- The lowest bit of a setter's field (R55). -/
def Field.shift : Field → Nat
  | .mux => 12
  | .pga => 9
  | .mode => 8
  | .dr => 5

/-- The greatest legal code; the legal codes are 0 up to it (R64). -/
def Field.maxCode : Field → Nat
  | .mux => 7
  | .pga => 5
  | .mode => 1
  | .dr => 7

/-- The mask of the status bit `OS`, `STATUS_MASK` and the value `STATUS_START` (R58). -/
def statusMask : Word := 0x8000#16

/-- The mask of the comparator bits `COMP` (R63). -/
def compMask : Word := 0x001F#16

/-- The code a word holds in a field, `(w & mask) >> shift` (R57). -/
def Field.code (f : Field) (w : Word) : Nat := ((w &&& f.mask) >>> f.shift).toNat

/-- The legality test of a setter's operand (R64): no bit outside the mask, and a code of the enumeration. -/
def Field.legal (f : Field) (v : Word) : Bool :=
  (v &&& ~~~ f.mask == 0#16) && decide (f.code v ≤ f.maxCode)

/-! ### The pointer space -/

/-- The pointer byte of a register (10_state.md R21, 20_memory.md R34). -/
def PointerReg.address : PointerReg → Byte
  | .conversion => 0x00#8
  | .config => 0x01#8
  | .loThresh => 0x02#8
  | .hiThresh => 0x03#8

/-- The register at a pointer byte; 0x04..0xFF are not defined (20_memory.md R34). -/
def PointerReg.ofAddress (p : Byte) : Option PointerReg :=
  if p = 0x00#8 then some .conversion
  else if p = 0x01#8 then some .config
  else if p = 0x02#8 then some .loThresh
  else if p = 0x03#8 then some .hiThresh
  else none

/-! ### Decoding -/

/-- Why an encoding is no instruction. -/
inductive Reject where
  /-- command op 0x9..0xF (R72) -/
  | reservedOp
  /-- Commit, Refresh or ReadSample with an operand other than 0x0000 (R72) -/
  | operandNotZero
  /-- Initialize with operand bits 15..7 not zero (R72) -/
  | addressTooWide
  /-- a frame whose pointer byte selects a register, in a direction in which the block never sends it: a write of any but the
  configuration register (20_memory.md R45), a read of a threshold register (R44) -/
  | neverIssued
  /-- a frame whose pointer byte selects no register (20_memory.md R34, R68) -/
  | undefinedPointer
  /-- a word outside the field's enumeration (R64) -/
  | notInEnumeration
  /-- a written word with bit 15 = 0: no start, no named value (R58) -/
  | noStart
  deriving DecidableEq, Repr

/-- What the decoder answers. -/
inductive Decoded where
  | instr (i : Instr)
  | rejected (r : Reject)
  deriving DecidableEq, Repr

/-- `op`, bits 19..16 of a command word (R69). -/
def commandOp (w : BitVec 20) : BitVec 4 := w.extractLsb' 16 4

/-- `operand`, bits 15..0 of a command word (R69). -/
def commandOperand (w : BitVec 20) : Word := w.extractLsb' 0 16

/-- A command that takes no operand (R70). -/
def decodeBare (i : Instr) (operand : Word) : Decoded :=
  if operand = 0#16 then .instr i else .rejected .operandNotZero

/-- The command word (R70, R72). -/
def decodeCommand (w : BitVec 20) : Decoded :=
  match (commandOp w).toNat with
  | 0 => if commandOperand w >>> 7 = 0#16 then .instr (.initialise (commandOperand w)) else .rejected .addressTooWide
  | 1 => .instr (.setInputMux (commandOperand w))
  | 2 => .instr (.setGain (commandOperand w))
  | 3 => .instr (.setMode (commandOperand w))
  | 4 => .instr (.setDataRate (commandOperand w))
  | 5 => decodeBare .commit (commandOperand w)
  | 6 => decodeBare .refresh (commandOperand w)
  | 7 => decodeBare .readSample (commandOperand w)
  | 8 => .instr (.toVolts (commandOperand w))
  | _ => .rejected .reservedOp

/-- The register-write frame: pointer byte, high byte, low byte (R66); only pointer 0x01 is ever sent. -/
def decodeWriteFrame (w : BitVec 24) : Decoded :=
  match PointerReg.ofAddress (w.extractLsb' 16 8) with
  | some .config => .instr (.regWrite (w.extractLsb' 0 16))
  | some .conversion => .rejected .neverIssued
  | some .loThresh => .rejected .neverIssued
  | some .hiThresh => .rejected .neverIssued
  | none => .rejected .undefinedPointer

/-- The register-read frame's pointer byte (R67); only 0x01 and 0x00 are ever sent. -/
def decodeReadFrame (w : BitVec 8) : Decoded :=
  match PointerReg.ofAddress w with
  | some .config => .instr .regReadConfig
  | some .conversion => .instr .regReadConversion
  | some .loThresh => .rejected .neverIssued
  | some .hiThresh => .rejected .neverIssued
  | none => .rejected .undefinedPointer

/-- The name of a field's code (R59, R60, R61, R62). -/
def Field.named : Field → Nat → Decoded
  | .mux, 0 => .instr .muxDiff01
  | .mux, 1 => .instr .muxDiff03
  | .mux, 2 => .instr .muxDiff13
  | .mux, 3 => .instr .muxDiff23
  | .mux, 4 => .instr .muxSingle0
  | .mux, 5 => .instr .muxSingle1
  | .mux, 6 => .instr .muxSingle2
  | .mux, 7 => .instr .muxSingle3
  | .pga, 0 => .instr .pga6144
  | .pga, 1 => .instr .pga4096
  | .pga, 2 => .instr .pga2048
  | .pga, 3 => .instr .pga1024
  | .pga, 4 => .instr .pga0512
  | .pga, 5 => .instr .pga0256
  | .mode, 0 => .instr .modeContinuous
  | .mode, 1 => .instr .modeSingleShot
  | .dr, 0 => .instr .rate8
  | .dr, 1 => .instr .rate16
  | .dr, 2 => .instr .rate32
  | .dr, 3 => .instr .rate64
  | .dr, 4 => .instr .rate128
  | .dr, 5 => .instr .rate250
  | .dr, 6 => .instr .rate475
  | .dr, 7 => .instr .rate860
  | _, _ => .rejected .notInEnumeration

/-- A field value, already shifted into position (R57, R64). -/
def decodeValue (f : Field) (w : Word) : Decoded :=
  if f.legal w then f.named (f.code w) else .rejected .notInEnumeration

/-- The decoder, total on every presented encoding. -/
def decode : Item → Decoded
  | .command w => decodeCommand w
  | .writeFrame w => decodeWriteFrame w
  | .readFrame w => decodeReadFrame w
  | .layout w => .instr (.cfgWord w)
  | .value f w => decodeValue f w
  | .statusWritten w => if w &&& statusMask = statusMask then .instr .statusStart else .rejected .noStart
  | .statusRead w => if w &&& statusMask = statusMask then .instr .statusReady else .instr .statusBusy

/-! ### Encoding -/

/-- A command word from its op and operand (R69). -/
def commandWord (op : BitVec 4) (operand : Word) : BitVec 20 := (op.setWidth 20 <<< 16) ||| operand.setWidth 20

/-- A write frame from its pointer byte and its value (R66). -/
def frameWord (p : Byte) (v : Word) : BitVec 24 := (p.setWidth 24 <<< 16) ||| v.setWidth 24

/-- The encoding of an instruction (R58 to R62, R66, R67, R70). -/
def encode : Instr → Item
  | .initialise a => .command (commandWord 0x0#4 a)
  | .setInputMux v => .command (commandWord 0x1#4 v)
  | .setGain v => .command (commandWord 0x2#4 v)
  | .setMode v => .command (commandWord 0x3#4 v)
  | .setDataRate v => .command (commandWord 0x4#4 v)
  | .commit => .command (commandWord 0x5#4 0#16)
  | .refresh => .command (commandWord 0x6#4 0#16)
  | .readSample => .command (commandWord 0x7#4 0#16)
  | .toVolts raw => .command (commandWord 0x8#4 raw)
  | .regWrite v => .writeFrame (frameWord 0x01#8 v)
  | .regReadConfig => .readFrame 0x01#8
  | .regReadConversion => .readFrame 0x00#8
  | .cfgWord w => .layout w
  | .muxDiff01 => .value .mux 0x0000#16
  | .muxDiff03 => .value .mux 0x1000#16
  | .muxDiff13 => .value .mux 0x2000#16
  | .muxDiff23 => .value .mux 0x3000#16
  | .muxSingle0 => .value .mux 0x4000#16
  | .muxSingle1 => .value .mux 0x5000#16
  | .muxSingle2 => .value .mux 0x6000#16
  | .muxSingle3 => .value .mux 0x7000#16
  | .pga6144 => .value .pga 0x0000#16
  | .pga4096 => .value .pga 0x0200#16
  | .pga2048 => .value .pga 0x0400#16
  | .pga1024 => .value .pga 0x0600#16
  | .pga0512 => .value .pga 0x0800#16
  | .pga0256 => .value .pga 0x0A00#16
  | .modeContinuous => .value .mode 0x0000#16
  | .modeSingleShot => .value .mode 0x0100#16
  | .rate8 => .value .dr 0x0000#16
  | .rate16 => .value .dr 0x0020#16
  | .rate32 => .value .dr 0x0040#16
  | .rate64 => .value .dr 0x0060#16
  | .rate128 => .value .dr 0x0080#16
  | .rate250 => .value .dr 0x00A0#16
  | .rate475 => .value .dr 0x00C0#16
  | .rate860 => .value .dr 0x00E0#16
  | .statusStart => .statusWritten 0x8000#16
  | .statusBusy => .statusRead 0x0000#16
  | .statusReady => .statusRead 0x8000#16

/-! ### The table's words

DESIGN CHOICE (log 15). The table's rows overlap where the spec's own context tells them apart: a 24-bit number with
bits 23..20 zero is read as a command word, and a 16-bit number as the start value, else as the first field value it can be,
else as a whole configuration word. -/

/-- A 16-bit word with no context. -/
def itemOfWord (w : Word) : Item :=
  if w = statusMask then .statusWritten w
  else match [Field.mux, .pga, .mode, .dr].find? (fun f => f.legal w) with
    | some f => .value f w
    | none => .layout w

/-- The form in which a number of the opcode table is presented. -/
def itemOfTable (nbits w : Nat) : Item :=
  if nbits ≤ 8 then .readFrame (BitVec.ofNat 8 w)
  else if nbits ≤ 16 then itemOfWord (BitVec.ofNat 16 w)
  else if w < 2 ^ 20 then .command (BitVec.ofNat 20 w)
  else .writeFrame (BitVec.ofNat 24 w)

/-- The instruction the decoder reads from a number of the opcode table. -/
def decodeTableWord (nbits w : Nat) : Option Instr :=
  match decode (itemOfTable nbits w) with
  | .instr i => some i
  | .rejected _ => none

end Sys2Proof
end

