-- ==== Sys2Proof/Machine/State.lean ====
section
/-! DEFINITION. The state of the block and of the device (10_state.md), the parameters and the environment of a step beside it (R8, R9,
R10), and the state after both resets (R32, R139, R140). -/

namespace Sys2Proof.Machine

/-! ### Registers with named values -/

/-- `SEQ`, the sequencer state (R17). -/
inductive Seq where
  | idle
  | triggered
  | polling
  | ready
  deriving DecidableEq, Repr

/-- The 2-bit code of `SEQ` (R17). -/
def Seq.code : Seq → BitVec 2
  | .idle => 0#2
  | .triggered => 1#2
  | .polling => 2#2
  | .ready => 3#2

/-- `SYNC` (R18). -/
inductive Sync where
  | clean
  | dirty
  deriving DecidableEq, Repr

/-- The 1-bit code of `SYNC` (R18). -/
def Sync.code : Sync → BitVec 1
  | .clean => 0#1
  | .dirty => 1#1

/-- `ERR`, the error kinds (60_exceptions.md R118). -/
inductive Err where
  | ok
  | transportError
  | invalidFieldValue
  | pollTimeout
  | reservedGain
  | noHandle
  | illegalCommand
  deriving DecidableEq, Repr

/-- The 3-bit code of `ERR` (R118); code 7 is never produced. -/
def Err.code : Err → BitVec 3
  | .ok => 0#3
  | .transportError => 1#3
  | .invalidFieldValue => 2#3
  | .pollTimeout => 3#3
  | .reservedGain => 4#3
  | .noHandle => 5#3
  | .illegalCommand => 6#3

/-! ### The parts of the state -/

/-- The Device Handle (R13): `ADDR` and `CFG`. -/
structure Handle where
  addr : BusAddr
  cfg : Word
  deriving DecidableEq, Repr

/-- The parameter `FLOAT` (R10, R111): the default, the other rendering that R111 names, or a format the spec does not name. -/
inductive FloatFormat where
  | binary32
  | binary64Then32
  | other
  deriving DecidableEq, Repr

/-- The bits of a float result: IEEE binary32, or the pattern of an unnamed format read as a number. -/
inductive FloatBits where
  | binary32 (w : BitVec 32)
  | other (n : Nat)
  deriving DecidableEq, Repr

/-- `VOLTS` (R19): `V_exact` in units of 10^-10 V (R110) and `V_float` (R111). -/
structure Volts where
  exact : Int
  float : FloatBits
  deriving DecidableEq, Repr

/-- The device (R21, R23, R24, R27): `HW.CONFIG[14:0]`, `HW.BUSY`, `HW.CONV`, `HW.LO`, `HW.HI`, `HW.PTR`. -/
structure Device where
  config : Stored
  busy : Bool
  conv : Word
  lo : Word
  hi : Word
  ptr : Byte
  deriving DecidableEq, Repr

/-- One transport call with its answer (R36). A read's answer is the two bytes that came back. -/
inductive BusCall where
  | write (addr : BusAddr) (bytes : List Byte) (answer : Answer)
  | read (addr : BusAddr) (bytes : List Byte) (answer : Option (Byte × Byte))
  deriving DecidableEq, Repr

/-- What happens at a step: an agent's turn (R8), or one of the two resets from outside (70_reset_and_hazards.md R138). -/
inductive Event where
  | turn (a : Agent)
  | blockReset
  | deviceReset
  deriving DecidableEq, Repr

/-- DESIGN CHOICE (log 2). What the environment supplies to the draws of R54, in order of use: each list is followed by the
free values of Config. `drawn` counts the draws. -/
structure Inputs where
  events : List Event
  answers : List Answer
  words : List Word
  bits : List Bool
  configs : List Stored
  drawn : Nat
  deriving DecidableEq, Repr

/-- The state the spec gives the machine: the block's (10_state.md R13 to R19) and the device's (R21 to R27). -/
structure Hardware where
  /-- `INITED`, `ADDR` and `CFG` (R14, R15, R16): a handle exists or not; with no handle `ADDR` and `CFG` hold no value (R20). -/
  handle : Option Handle
  /-- `SEQ` (R17). -/
  seq : Seq
  /-- The poll counter `n` of ReadSample (42_conversion_sequencer.md R88). -/
  polls : Nat
  /-- `SYNC` (R18). -/
  sync : Sync
  /-- `ERR` (R19). -/
  err : Err
  /-- `SAMPLE` (R19); no value until a ReadSample has succeeded (R20). -/
  sample : Option Word
  /-- `VOLTS` (R19); no value until a ToVolts has succeeded (R20). -/
  volts : Option Volts
  /-- The device's registers. -/
  dev : Device
  deriving DecidableEq, Repr

/-- What is no state of the machine but stands around it (00_scope.md R8, R9): the parameters of the step, the host's and the
oracle's inputs, and the record of what went over the bus. -/
structure Surroundings where
  /-- `MAX_POLL` (R10). No step changes it (log 7). -/
  maxPoll : Option Nat
  /-- `FLOAT` (R10). No step changes it (log 7). -/
  float : FloatFormat
  /-- The command words that the host will present at the command port, first to last (30_encoding.md R69; log 1). -/
  port : List (BitVec 20)
  /-- Rows of the opcode table that are run on their own, first to last. No host can present one: the block executes the nine
  operations and nothing else (R2; log 1, log 21). -/
  bench : List Item
  /-- The draws' inputs (log 2). -/
  inputs : Inputs
  /-- Every transport call made, oldest first; nothing reads it (log 9). -/
  trace : List BusCall
  deriving DecidableEq, Repr

/-- The machine and what stands around it. The step takes both, because the host's interface gives it one argument. -/
structure State extends Hardware, Surroundings where
  deriving DecidableEq, Repr

/-- `INITED` (R16). -/
def State.inited (s : State) : Bool := s.handle.isSome

/-- No step of this machine faults: each error of the spec is a next state with its code in `ERR` (60_exceptions.md R127). -/
inductive Fault
  deriving DecidableEq, Repr

/-- Why a step has no meaning. -/
inductive Refusal where
  /-- An arm of `exec` that has no meaning yet. Safe. No arm raises it. -/
  | notModelled (mnemonic : String)
  /-- Raised by the fetch of a bus frame that selects a register the block never accesses in that direction (20_memory.md R44,
  R45: given no meaning). Safe. -/
  | neverIssued
  /-- Raised by the fetch of a bus frame whose pointer byte selects no register (20_memory.md R34; 30_encoding.md R68; D31: the
  model refuses to build it). Safe. -/
  | undefinedPointer
  /-- Raised by the row CFG_WORD, which the table itself calls a layout descriptor and not an instruction (log 14). Safe. -/
  | layoutDescriptor
  deriving DecidableEq, Repr

/-- The state after a device reset (R139) and a block reset (R140), with nothing presented and nothing scripted. The four
device registers whose reset contents are draws (R32) hold free values (log 5), the first four drawn. -/
def State.reset : State where
  handle := none
  seq := .idle
  polls := 0
  sync := .dirty
  err := .ok
  sample := none
  volts := none
  dev :=
    { config := 0x0583#15
      busy := false
      conv := Config.freeWord 0
      lo := Config.freeWord 1
      hi := Config.freeWord 2
      ptr := (Config.freeWord 3).setWidth 8 }
  maxPoll := none
  float := .binary32
  port := []
  bench := []
  inputs := { events := [], answers := [], words := [], bits := [], configs := [], drawn := 4 }
  trace := []

end Sys2Proof.Machine
end

