-- ==== Sys2Proof/Machine/Operands.lean ====
section
/-! DEFINITION. The operand forms: bytes of a register value (20_memory.md R39), the masked update (40_field_setters.md R75),
the field tests, and the sign, magnitude and full-scale range of ToVolts (43_voltage_scaling.md R107, R108). -/

namespace Sys2Proof.Machine

/-- Bits 15..8, the first data byte on the bus (R39). -/
def hiByte (v : Word) : Byte := v.extractLsb' 8 8

/-- Bits 7..0, the second data byte on the bus (R39). -/
def loByte (v : Word) : Byte := v.extractLsb' 0 8

/-- `{b0, b1}`, the value of a register read (R38). -/
def assemble (b0 b1 : Byte) : Word := (b0.setWidth 16 <<< 8) ||| b1.setWidth 16

/-- The part of a word the device stores (R23). -/
def storedPart (w : Word) : Stored := w.setWidth 15

/-- `{s, HW.CONFIG[14:0]}`, the word a configuration read returns (20_memory.md R43). -/
def statusWord (s : Bool) (c : Stored) : Word := (if s then statusMask else 0#16) ||| c.setWidth 16

/-- `(CFG & ~m) | v` (R75). -/
def maskedUpdate (cfg m v : Word) : Word := (cfg &&& ~~~m) ||| v

/-- The mode test of ReadSample, on the `MODE` mask alone (42_conversion_sequencer.md R89). -/
def singleShot (cfg : Word) : Bool := cfg &&& 0x0100#16 == 0x0100#16

/-- The gain code of a word, `(CFG & 0x0E00) >> 9` (R106, R109). -/
def gainCode (cfg : Word) : Nat := Field.pga.code cfg

/-- `FSR[g]` in millivolts; none for the two reserved codes (R108, R112). -/
def fullScale : Nat → Option Nat
  | 0 => some 6144
  | 1 => some 4096
  | 2 => some 2048
  | 3 => some 1024
  | 4 => some 512
  | 5 => some 256
  | _ => none

/-- The sign of a raw sample: its top bit (R107). -/
def isNegative (raw : Word) : Bool := raw.getLsbD 15

/-- The magnitude of a raw sample, an unsigned value up to 32768 (R107). -/
def magnitude (raw : Word) : Nat := if isNegative raw then (~~~raw + 1#16).toNat else raw.toNat

end Sys2Proof.Machine
end

