-- ==== Sys2Proof/Machine/Flags.lean ====
section
/-! DEFINITION. The status items of 10_state.md R28: the status bit of a configuration word, the `SYNC` flag, the `ERR` code.
`ERR` is written by `State.respond` and `State.raise` of Machine/Ops.lean. -/

namespace Sys2Proof.Machine

/-- The status bit of a word reads ready, tested by its own mask (42_conversion_sequencer.md R92). -/
def statusReads (w : Word) : Bool := w &&& statusMask == statusMask

/-- `SYNC <- x` (R18). -/
def State.setSync (s : State) (x : Sync) : State := { s with sync := x }

end Sys2Proof.Machine
end

