-- ==== Sys2Proof/Machine/Draws.lean ====
section
/-! DEFINITION. The draws of 20_memory.md R54. DESIGN CHOICE (log 2): a draw is the head of its input list, or, where the list
is empty, a free value of Config; taking it drops the head and advances the counter. -/

namespace Sys2Proof.Machine

/-- The agent as an event of a step. -/
def Inputs.event (i : Inputs) : Event := i.events.headD (.turn (Config.freeAgent i.drawn))

/-- The transport's next answer. -/
def Inputs.answer (i : Inputs) : Answer := i.answers.headD (Config.freeAnswer i.drawn)

/-- The next `draw(16)`. -/
def Inputs.word (i : Inputs) : Word := i.words.headD (Config.freeWord i.drawn)

/-- The next `draw(1)`. -/
def Inputs.bit (i : Inputs) : Bool := i.bits.headD (Config.freeBit i.drawn)

/-- The next `draw(15)`. -/
def Inputs.config (i : Inputs) : Stored := i.configs.headD (Config.freeConfig i.drawn)

/-- One event is used up. -/
def Inputs.dropEvent (i : Inputs) : Inputs := { i with events := i.events.tail, drawn := i.drawn + 1 }

/-- One answer is used up. -/
def Inputs.dropAnswer (i : Inputs) : Inputs := { i with answers := i.answers.tail, drawn := i.drawn + 1 }

/-- One `draw(16)` is used up. -/
def Inputs.dropWord (i : Inputs) : Inputs := { i with words := i.words.tail, drawn := i.drawn + 1 }

/-- One `draw(1)` is used up. -/
def Inputs.dropBit (i : Inputs) : Inputs := { i with bits := i.bits.tail, drawn := i.drawn + 1 }

/-- One `draw(15)` is used up. -/
def Inputs.dropConfig (i : Inputs) : Inputs := { i with configs := i.configs.tail, drawn := i.drawn + 1 }

/-- The event of a step is used up. -/
def State.dropEvent (s : State) : State := { s with inputs := s.inputs.dropEvent }

/-- The answer of a bus call is used up. -/
def State.dropAnswer (s : State) : State := { s with inputs := s.inputs.dropAnswer }

end Sys2Proof.Machine
end

