-- ==== Sys2Proof/Machine/Device.lean ====
section
/-! DEFINITION. The device: what a configuration write and the two register reads do in it (20_memory.md R42, R43, R44, R46),
its two autonomous steps (42_conversion_sequencer.md R102, R103) and its power-on (70_reset_and_hazards.md R139). -/

namespace Sys2Proof.Machine

/-- The registers the block reads (20_memory.md R34); no other read is ever built (R44). -/
inductive Reg where
  | conversion
  | config
  deriving DecidableEq, Repr

/-- The pointer register that is read. -/
def Reg.reg : Reg → PointerReg
  | .conversion => .conversion
  | .config => .config

/-- The pointer byte of a register that is read (R34). -/
def Reg.pointer (r : Reg) : Byte := r.reg.address

/-- `HW.R[p]`, what a pointer register holds (10_state.md R21); of the configuration register the stored bits 14..0 (R23). -/
def Device.register (d : Device) : PointerReg → Word
  | .conversion => d.conv
  | .config => d.config.setWidth 16
  | .loThresh => d.lo
  | .hiThresh => d.hi

/-- The device is in single-shot mode: `HW.CONFIG[8] = 1` (R43). -/
def Device.singleShot (d : Device) : Bool := d.config.getLsbD 8

/-- The written word leaves continuous mode without a start, so the busy bit is a draw (R42). -/
def Device.leavesContinuous (d : Device) (w : Word) : Bool := !w.getLsbD 15 && (!d.singleShot && w.getLsbD 8)

/-- `device_write(1, w)` (R42). -/
def State.deviceWrite (w : Word) (s : State) : State :=
  { s with
    dev :=
      { s.dev with
        config := storedPart w
        busy :=
          if w.getLsbD 15 then true
          else if s.dev.leavesContinuous w then s.inputs.bit
          else s.dev.busy }
    inputs := if s.dev.leavesContinuous w then s.inputs.dropBit else s.inputs }

/-- The status bit a configuration read returns: not busy in single-shot mode, a draw in continuous mode (R43). -/
def State.statusBit (s : State) : Bool := if s.dev.singleShot then !s.dev.busy else s.inputs.bit

/-- `device_read(p)` (R43, R44). -/
def State.deviceRead (r : Reg) (s : State) : Word :=
  match r with
  | .conversion => s.dev.conv
  | .config => statusWord s.statusBit s.dev.config

/-- The state after `device_read(p)`: no device state changes (R43, R44); the draw of continuous mode is used up. -/
def State.afterRead (r : Reg) (s : State) : State :=
  match r with
  | .conversion => s
  | .config => { s with inputs := if s.dev.singleShot then s.inputs else s.inputs.dropBit }

/-- `device_after_failed_write()` (R46). -/
def State.deviceAfterFailedWrite (s : State) : State :=
  { s with
    dev := { s.dev with config := s.inputs.config, busy := s.inputs.dropConfig.bit }
    inputs := s.inputs.dropConfig.dropBit }

/-- PRESUMED (log 6): the device keeps the pointer byte of the last transaction that succeeded (R27). -/
def State.selectPointer (p : Byte) (s : State) : State := { s with dev := { s.dev with ptr := p } }

/-- ConvDone is enabled (R102). -/
def State.convDoneEnabled (s : State) : Bool := s.dev.busy

/-- ConvDone (R102). -/
def State.convDone (s : State) : State :=
  { s with dev := { s.dev with conv := s.inputs.word, busy := false }, inputs := s.inputs.dropWord }

/-- ContUpdate is enabled (R103). -/
def State.contUpdateEnabled (s : State) : Bool := !s.dev.singleShot

/-- ContUpdate (R103). -/
def State.contUpdate (s : State) : State :=
  { s with dev := { s.dev with conv := s.inputs.word }, inputs := s.inputs.dropWord }

/-- Device reset (R139): the stored default 0x0583, not busy, and draws in the registers whose contents are unspecified. -/
def State.deviceReset (s : State) : State :=
  { s with
    dev :=
      { config := 0x0583#15
        busy := false
        conv := s.inputs.word
        lo := s.inputs.dropWord.word
        hi := s.inputs.dropWord.dropWord.word
        ptr := s.inputs.dropWord.dropWord.dropWord.word.setWidth 8 }
    inputs := s.inputs.dropWord.dropWord.dropWord.dropWord }

end Sys2Proof.Machine
end

