-- ==== Sys2Proof/Machine/Ops.lean ====
section
/-! DEFINITION. The named operations that the meanings share: ending an operation with or without an error (60_exceptions.md
R127, 00_scope.md R12), the handle check (R123), the two bus transactions (20_memory.md R37, R38), the mirror, and block
reset (70_reset_and_hazards.md R140). -/

namespace Sys2Proof.Machine

/-- `raise E` (R12, R127): the operation ends here with error kind `e`; what was written before stays. `SEQ` goes to Idle. -/
def State.raise (e : Err) (s : State) : State := { s with err := e, seq := .idle }

/-- `return` (R12): the operation ends successfully. There is no return from an error: `ERR` is only overwritten (R128). -/
def State.respond (s : State) : State := { s with err := .ok }

/-- The handle check (R123): with no handle nothing is read and nothing but `ERR` is written. -/
def State.withHandle (s : State) (f : Handle → State) : State :=
  match s.handle with
  | none => s.raise .noHandle
  | some h => f h

/-- `CFG <- v`, in the handle `h`. -/
def State.setCfg (h : Handle) (v : Word) (s : State) : State := { s with handle := some { h with cfg := v } }

/-- The record of a transport call (log 9). -/
def State.logged (c : BusCall) (s : State) : State := { s with trace := s.trace ++ [c] }

/-- The three bytes of a register write of the configuration register (R37, R66). -/
def writeFrame (v : Word) : List Byte := [Reg.config.pointer, hiByte v, loByte v]

/-- The register write of `v` that the transport reports as done (R37). -/
def State.writeDone (a : BusAddr) (v : Word) (s : State) : State :=
  ((s.dropAnswer.logged (.write a (writeFrame v) .ok)).selectPointer Reg.config.pointer).deviceWrite
    (assemble (hiByte v) (loByte v))

/-- The register write of `v` that the transport reports as failed (R37, R46). -/
def State.writeFailed (a : BusAddr) (v : Word) (s : State) : State :=
  (s.dropAnswer.logged (.write a (writeFrame v) .transportError)).deviceAfterFailedWrite

/-- `MemWrite(0x01, 2, v)` to the device at `a` (R37), with what follows on an error and on success. -/
def State.memWrite (a : BusAddr) (v : Word) (s : State) (onError onOk : State → State) : State :=
  match s.inputs.answer with
  | .transportError => onError (s.writeFailed a v)
  | .ok => onOk (s.writeDone a v)

/-- The value a register read that succeeds returns (R38): the two bytes that came back, the first one high. -/
def State.readValue (r : Reg) (s : State) : Word :=
  assemble (hiByte (s.dropAnswer.deviceRead r)) (loByte (s.dropAnswer.deviceRead r))

/-- The register read that the transport reports as done (R38, R67). -/
def State.readDone (a : BusAddr) (r : Reg) (s : State) : State :=
  ((s.dropAnswer.afterRead r).logged
    (.read a [r.pointer] (some (hiByte (s.dropAnswer.deviceRead r), loByte (s.dropAnswer.deviceRead r))))).selectPointer
    r.pointer

/-- The register read that the transport reports as failed: the device is unchanged (R38). -/
def State.readFailed (a : BusAddr) (r : Reg) (s : State) : State := s.dropAnswer.logged (.read a [r.pointer] none)

/-- `MemRead(p, 2)` from the device at `a` (R38), with what follows on an error and on success. -/
def State.memRead (a : BusAddr) (r : Reg) (s : State) (onError : State → State) (onOk : Word → State → State) : State :=
  match s.inputs.answer with
  | .transportError => onError (s.readFailed a r)
  | .ok => onOk (s.readValue r) (s.readDone a r)

/-- Commit's write and flag (41_register_io.md R85), with what follows on an error and on success. -/
def State.commitCfg (h : Handle) (s : State) (onError onOk : State → State) : State :=
  s.memWrite h.addr h.cfg (fun t => onError (t.setSync .dirty)) (fun t => onOk (t.setSync .clean))

/-- The trigger Commit (42_conversion_sequencer.md R88, R91): bit 15 is set in the mirror, then the whole mirror is written. -/
def State.triggerCommit (h : Handle) (s : State) (onError onOk : State → State) : State :=
  ((s.setCfg h (h.cfg ||| statusMask)).setSync .dirty).commitCfg { h with cfg := h.cfg ||| statusMask } onError onOk

/-- Refresh's read, mirror and flag (R86), with what follows on an error and on success (given the word read). -/
def State.refreshCfg (h : Handle) (s : State) (onError : State → State) (onOk : Word → State → State) : State :=
  s.memRead h.addr .config onError (fun v t => onOk v ((t.setCfg h v).setSync .clean))

/-- Block reset (R140): no handle, and no value in `CFG`, `ADDR`, `SAMPLE`, `VOLTS`. -/
def State.blockReset (s : State) : State :=
  { s with handle := none, seq := .idle, polls := 0, sync := .dirty, err := .ok, sample := none, volts := none }

end Sys2Proof.Machine
end

