-- ==== Sys2Proof/Machine/Layout.lean ====
section
/-! DEFINITION. The layout row of the opcode table (30_encoding.md R55). -/

namespace Sys2Proof.Machine

/-- CFG_WORD (R55): the table calls it a "layout descriptor of the configuration word, not an instruction", and the block
"executes nine fixed operations ... and nothing else" (00_scope.md R2). -/
def execCfgWord (_w : Word) (_s : State) : Host.Outcome State Fault Refusal := .refused .layoutDescriptor

end Sys2Proof.Machine
end

