-- ==== Sys2Proof/Machine/RegisterIO.lean ====
section
/-! DEFINITION. Initialize, Commit, Refresh (41_register_io.md) and the three bus frames on their own (30_encoding.md R66, R67). -/

namespace Sys2Proof.Machine

/-- A new handle from the word read (R84). -/
def State.bind (a : BusAddr) (v : Word) (s : State) : State := { s with handle := some { addr := a, cfg := v } }

/-- Initialize at a 7-bit address (R84): one read of the configuration register; on failure the old handle stays. -/
def State.initialise (a : BusAddr) (s : State) : State :=
  s.memRead a .config (fun t => t.raise .transportError) (fun v t => ((t.bind a v).setSync .clean).respond)

/-- Initialize (R84): an operand with bits 15..7 not zero is an illegal command. -/
def execInitialise (a : Word) (s : State) : Host.Outcome State Fault Refusal :=
  .next (if a >>> 7 = 0#16 then s.initialise (a.setWidth 7) else s.raise .illegalCommand)

/-- Commit (R85): the whole mirror is written; the mirror itself does not change. -/
def execCommit (s : State) : Host.Outcome State Fault Refusal :=
  .next (s.withHandle fun h => s.commitCfg h (fun t => t.raise .transportError) (fun t => t.respond))

/-- Refresh (R86). -/
def execRefresh (s : State) : Host.Outcome State Fault Refusal :=
  .next (s.withHandle fun h => s.refreshCfg h (fun t => t.raise .transportError) (fun _ t => t.respond))

/-! ### Bus frames

DESIGN CHOICE (log 10): a frame on its own is its transaction (20_memory.md R37, R38) with the device at `ADDR`, so it needs a
handle; it ends like an operation and touches neither mirror nor `SYNC`. -/

/-- REGWRITE (R66): `MemWrite(0x01, 2, v)`. -/
def execRegWrite (v : Word) (s : State) : Host.Outcome State Fault Refusal :=
  .next (s.withHandle fun h => s.memWrite h.addr v (fun t => t.raise .transportError) (fun t => t.respond))

/-- REGREAD_CONFIG (R67): `MemRead(0x01, 2)`. -/
def execRegReadConfig (s : State) : Host.Outcome State Fault Refusal :=
  .next (s.withHandle fun h => s.memRead h.addr .config (fun t => t.raise .transportError) (fun _ t => t.respond))

/-- REGREAD_CONVERSION (R67): `MemRead(0x00, 2)`. -/
def execRegReadConversion (s : State) : Host.Outcome State Fault Refusal :=
  .next (s.withHandle fun h => s.memRead h.addr .conversion (fun t => t.raise .transportError) (fun _ t => t.respond))

end Sys2Proof.Machine
end

