-- ==== Sys2Proof/Machine/Sequencer.lean ====
section
/-! DEFINITION. ReadSample, one transition of `SEQ` at a time (42_conversion_sequencer.md R88, R100), and the values of the
status bit (30_encoding.md R58).

DESIGN CHOICE (log 8): one step is one row of R100's table, so that the device may act between any two transactions (R101). -/

namespace Sys2Proof.Machine

/-- `SEQ <- x` (R17). -/
def State.setSeq (x : Seq) (s : State) : State := { s with seq := x }

/-- From Idle (R88, R89): the mirror's mode decides between the trigger Commit and the continuous path (R95). -/
def State.startSample (h : Handle) (s : State) : State :=
  if singleShot h.cfg then
    s.triggerCommit h (fun t => t.raise .transportError) (fun t => t.setSeq .triggered)
  else s.setSeq .ready

/-- From Triggered (R100): `n <- 0`. -/
def State.startPolling (s : State) : State := { s with seq := .polling, polls := 0 }

/-- The poll test (R92) on a word whose status bit reads `ready`: Polling goes to Ready or stays; no other state tests it. -/
def State.pollTest (ready : Bool) (s : State) : State :=
  { s with seq := if s.seq = .polling then (if ready then .ready else .polling) else s.seq }

/-- `n <- n + 1` (R88). -/
def State.countPoll (s : State) : State := { s with polls := s.polls + 1 }

/-- From Polling (R88, R92, R93, R94): the bound, then one Refresh and the test of the word it read. -/
def State.poll (h : Handle) (s : State) : State :=
  if s.maxPoll = some s.polls then s.raise .pollTimeout
  else s.refreshCfg h (fun t => t.raise .transportError) (fun v t => t.countPoll.pollTest (statusReads v))

/-- `SAMPLE <- v` (R88, R96). -/
def State.setSample (v : Word) (s : State) : State := { s with sample := some v }

/-- From Ready (R88, R96): the one conversion-register read. -/
def State.readConversion (h : Handle) (s : State) : State :=
  s.memRead h.addr .conversion (fun t => t.raise .transportError) (fun v t => ((t.setSample v).setSeq .idle).respond)

/-- ReadSample's next transition (R88, R100). -/
def State.sampleStep (s : State) : State :=
  s.withHandle fun h =>
    match s.seq with
    | .idle => s.startSample h
    | .triggered => s.startPolling
    | .polling => s.poll h
    | .ready => s.readConversion h

/-- ReadSample (R88). -/
def execReadSample (s : State) : Host.Outcome State Fault Refusal := .next s.sampleStep

/-! ### Status values -/

/-- STATUS_START (R58), the value when it is written. DESIGN CHOICE (log 12): the one way the block writes it is the trigger
Commit (R56, R91). -/
def execStatusStart (s : State) : Host.Outcome State Fault Refusal :=
  .next (s.withHandle fun h => s.triggerCommit h (fun t => t.raise .transportError) (fun t => t.respond))

/-- STATUS_BUSY (R58), the value when it is read. DESIGN CHOICE (log 13): its one effect is that of the poll test, the only
reader of the status bit (10_state.md R28). -/
def execStatusBusy (s : State) : Host.Outcome State Fault Refusal := .next (s.pollTest false)

/-- STATUS_READY (R58), the value when it is read (log 13). -/
def execStatusReady (s : State) : Host.Outcome State Fault Refusal := .next (s.pollTest true)

end Sys2Proof.Machine
end

