-- ==== Sys2Proof/Machine/Setters.lean ====
section
/-! DEFINITION. The field setters (40_field_setters.md) and the named values of their fields (30_encoding.md R59 to R62). -/

namespace Sys2Proof.Machine

/-- `Set_field(v, m, shift, L)` (R78). -/
def State.setField (f : Field) (v : Word) (s : State) : State :=
  s.withHandle fun h =>
    if f.legal v then ((s.setCfg h (maskedUpdate h.cfg f.mask v)).setSync .dirty).respond
    else s.raise .invalidFieldValue

/-- SetInputMux (R79). -/
def execSetInputMux (v : Word) (s : State) : Host.Outcome State Fault Refusal := .next (s.setField .mux v)

/-- SetGain (R80). -/
def execSetGain (v : Word) (s : State) : Host.Outcome State Fault Refusal := .next (s.setField .pga v)

/-- SetMode (R81). -/
def execSetMode (v : Word) (s : State) : Host.Outcome State Fault Refusal := .next (s.setField .mode v)

/-- SetDataRate (R82). -/
def execSetDataRate (v : Word) (s : State) : Host.Outcome State Fault Refusal := .next (s.setField .dr v)

/-! ### Named values

DESIGN CHOICE (log 11): a field value is the operand of its field's setter (R57, R74), and its meaning is that setter with
that operand. -/

/-- MUX_DIFF_0_1 (R59). -/
def execMuxDiff01 (s : State) : Host.Outcome State Fault Refusal := .next (s.setField .mux 0x0000#16)

/-- MUX_DIFF_0_3 (R59). -/
def execMuxDiff03 (s : State) : Host.Outcome State Fault Refusal := .next (s.setField .mux 0x1000#16)

/-- MUX_DIFF_1_3 (R59). -/
def execMuxDiff13 (s : State) : Host.Outcome State Fault Refusal := .next (s.setField .mux 0x2000#16)

/-- MUX_DIFF_2_3 (R59). -/
def execMuxDiff23 (s : State) : Host.Outcome State Fault Refusal := .next (s.setField .mux 0x3000#16)

/-- MUX_SINGLE_0 (R59). -/
def execMuxSingle0 (s : State) : Host.Outcome State Fault Refusal := .next (s.setField .mux 0x4000#16)

/-- MUX_SINGLE_1 (R59). -/
def execMuxSingle1 (s : State) : Host.Outcome State Fault Refusal := .next (s.setField .mux 0x5000#16)

/-- MUX_SINGLE_2 (R59). -/
def execMuxSingle2 (s : State) : Host.Outcome State Fault Refusal := .next (s.setField .mux 0x6000#16)

/-- MUX_SINGLE_3 (R59). -/
def execMuxSingle3 (s : State) : Host.Outcome State Fault Refusal := .next (s.setField .mux 0x7000#16)

/-- PGA_6_144 (R60). -/
def execPga6144 (s : State) : Host.Outcome State Fault Refusal := .next (s.setField .pga 0x0000#16)

/-- PGA_4_096 (R60). -/
def execPga4096 (s : State) : Host.Outcome State Fault Refusal := .next (s.setField .pga 0x0200#16)

/-- PGA_2_048 (R60). -/
def execPga2048 (s : State) : Host.Outcome State Fault Refusal := .next (s.setField .pga 0x0400#16)

/-- PGA_1_024 (R60). -/
def execPga1024 (s : State) : Host.Outcome State Fault Refusal := .next (s.setField .pga 0x0600#16)

/-- PGA_0_512 (R60). -/
def execPga0512 (s : State) : Host.Outcome State Fault Refusal := .next (s.setField .pga 0x0800#16)

/-- PGA_0_256 (R60). -/
def execPga0256 (s : State) : Host.Outcome State Fault Refusal := .next (s.setField .pga 0x0A00#16)

/-- MODE_CONTINUOUS (R61). -/
def execModeContinuous (s : State) : Host.Outcome State Fault Refusal := .next (s.setField .mode 0x0000#16)

/-- MODE_SINGLE_SHOT (R61). -/
def execModeSingleShot (s : State) : Host.Outcome State Fault Refusal := .next (s.setField .mode 0x0100#16)

/-- RATE_8 (R62). -/
def execRate8 (s : State) : Host.Outcome State Fault Refusal := .next (s.setField .dr 0x0000#16)

/-- RATE_16 (R62). -/
def execRate16 (s : State) : Host.Outcome State Fault Refusal := .next (s.setField .dr 0x0020#16)

/-- RATE_32 (R62). -/
def execRate32 (s : State) : Host.Outcome State Fault Refusal := .next (s.setField .dr 0x0040#16)

/-- RATE_64 (R62). -/
def execRate64 (s : State) : Host.Outcome State Fault Refusal := .next (s.setField .dr 0x0060#16)

/-- RATE_128 (R62). -/
def execRate128 (s : State) : Host.Outcome State Fault Refusal := .next (s.setField .dr 0x0080#16)

/-- RATE_250 (R62). -/
def execRate250 (s : State) : Host.Outcome State Fault Refusal := .next (s.setField .dr 0x00A0#16)

/-- RATE_475 (R62). -/
def execRate475 (s : State) : Host.Outcome State Fault Refusal := .next (s.setField .dr 0x00C0#16)

/-- RATE_860 (R62). -/
def execRate860 (s : State) : Host.Outcome State Fault Refusal := .next (s.setField .dr 0x00E0#16)

end Sys2Proof.Machine
end

