-- ==== Sys2Proof/Machine/Voltage.lean ====
section
/-! DEFINITION. ToVolts (43_voltage_scaling.md): the exact value (R110) and the float rendering (R111). -/

namespace Sys2Proof.Machine

/-! ### The exact value -/

/-- `(neg ? -1 : +1) * FSR[g] * mag / 32768` in units of 10^-10 V (R106, R110); `fsr` is in millivolts, 10^7 units each, and
the division has no remainder (R108). -/
def exactVolts (neg : Bool) (fsr mag : Nat) : Int :=
  if neg then -((fsr * 10000000 * mag / 32768 : Nat) : Int) else ((fsr * 10000000 * mag / 32768 : Nat) : Int)

/-! ### The float rendering -/

/-- The operations of a format `F` that R111 asks for. -/
structure FloatOps (F : Type) where
  ofDecimal : Nat → F
  ofNat : Nat → F
  mul : F → F → F
  div : F → F → F
  neg : F → F

/-- `render(neg, g, mag)`, left to right (R111); the constant is given in millivolts. -/
def render {F : Type} (ops : FloatOps F) (neg : Bool) (fsr mag : Nat) : F :=
  let q := ops.div (ops.mul (ops.ofDecimal fsr) (ops.ofNat mag)) (ops.ofNat 32768)
  if neg then ops.neg q else q

/-- A finite binary float: `(-1)^sign * man * 2^exp`. -/
structure Fp where
  sign : Bool
  man : Nat
  exp : Int
  deriving DecidableEq, Repr

/-- The numerator of `num / den / 2^e` over `scaleDen`. -/
def scaleNum (num : Nat) (e : Int) : Nat := num * 2 ^ (-e).toNat

/-- The denominator of `num / den / 2^e` under `scaleNum`. -/
def scaleDen (den : Nat) (e : Int) : Nat := den * 2 ^ e.toNat

/-- The exponent that gives `num / den` a significand of exactly `p` bits. -/
def roundExp (p num den : Nat) : Int :=
  let e : Int := (num.log2 : Int) - (den.log2 : Int) - ((p : Int) - 1)
  if scaleNum num e / scaleDen den e < 2 ^ (p - 1) then e - 1 else e

/-- The quotient rounded to the nearest integer, ties to even (R111, D16). -/
def roundQuot (num den : Nat) : Nat :=
  let q := num / den
  let r := num % den
  if 2 * r > den ∨ (2 * r = den ∧ q % 2 = 1) then q + 1 else q

/-- `num / den` times `2^e0` rounded to `p` significand bits. The exponent is unbounded: no result of ToVolts is subnormal
or overflows (R111). -/
def Fp.round (p : Nat) (sign : Bool) (num den : Nat) (e0 : Int) : Fp :=
  if num = 0 then { sign := sign, man := 0, exp := 0 }
  else
    { sign := sign
      man := roundQuot (scaleNum num (roundExp p num den)) (scaleDen den (roundExp p num den))
      exp := roundExp p num den + e0 }

/-- The operations of IEEE 754 arithmetic at `p` significand bits, round to nearest even. -/
def ieeeOps (p : Nat) : FloatOps Fp where
  ofDecimal milliVolts := Fp.round p false milliVolts 1000 0
  ofNat n := Fp.round p false n 1 0
  mul a b := Fp.round p (a.sign != b.sign) (a.man * b.man) 1 (a.exp + b.exp)
  div a b := Fp.round p (a.sign != b.sign) a.man b.man (a.exp - b.exp)
  neg a := { a with sign := !a.sign }

/-- The binary32 pattern of a float with a 24-bit significand. -/
def Fp.bits32 (x : Fp) : BitVec 32 :=
  BitVec.ofNat 32 ((if x.sign then 2 ^ 31 else 0) + (if x.man = 0 then 0 else (x.exp + 150).toNat * 2 ^ 23 + x.man - 2 ^ 23))

/-- The operations of a format the spec does not name (R111). -/
def otherOps : FloatOps Nat where
  ofDecimal := Config.otherOfDecimal
  ofNat := Config.otherOfNat
  mul := Config.otherMul
  div := Config.otherDiv
  neg := Config.otherNeg

/-- `V_float` in the format `FLOAT` (R111): binary32 throughout, binary64 throughout and rounded once to binary32 at the end,
or an unnamed format. -/
def floatVolts (f : FloatFormat) (neg : Bool) (fsr mag : Nat) : FloatBits :=
  match f with
  | .binary32 => .binary32 (render (ieeeOps 24) neg fsr mag).bits32
  | .binary64Then32 =>
    let x := render (ieeeOps 53) neg fsr mag
    .binary32 (Fp.round 24 x.sign x.man 1 x.exp).bits32
  | .other => .other (render otherOps neg fsr mag)

/-! ### The operation -/

/-- `VOLTS <- v` (R106). -/
def State.setVolts (v : Volts) (s : State) : State := { s with volts := some v }

/-- ToVolts (R106, R112): the gain is the mirror's, now (R109). -/
def State.toVolts (raw : Word) (s : State) : State :=
  s.withHandle fun h =>
    match fullScale (gainCode h.cfg) with
    | none => s.raise .reservedGain
    | some fsr =>
      (s.setVolts
        { exact := exactVolts (isNegative raw) fsr (magnitude raw)
          float := floatVolts s.float (isNegative raw) fsr (magnitude raw) }).respond

/-- ToVolts (R106). -/
def execToVolts (raw : Word) (s : State) : Host.Outcome State Fault Refusal := .next (s.toVolts raw)

end Sys2Proof.Machine
end

