-- ==== Sys2Proof/Machine/Dispatch.lean ====
section
/-! DEFINITION. The dispatch: one arm per constructor, each one direct call of its meaning. -/

namespace Sys2Proof.Machine

/-- The instruction `i` in the state `s`. -/
def exec (i : Instr) (s : State) : Host.Outcome State Fault Refusal :=
  match i with
  | .initialise a => Sys2Proof.Machine.execInitialise a s
  | .setInputMux v => Sys2Proof.Machine.execSetInputMux v s
  | .setGain v => Sys2Proof.Machine.execSetGain v s
  | .setMode v => Sys2Proof.Machine.execSetMode v s
  | .setDataRate v => Sys2Proof.Machine.execSetDataRate v s
  | .commit => Sys2Proof.Machine.execCommit s
  | .refresh => Sys2Proof.Machine.execRefresh s
  | .readSample => Sys2Proof.Machine.execReadSample s
  | .toVolts raw => Sys2Proof.Machine.execToVolts raw s
  | .regWrite v => Sys2Proof.Machine.execRegWrite v s
  | .regReadConfig => Sys2Proof.Machine.execRegReadConfig s
  | .regReadConversion => Sys2Proof.Machine.execRegReadConversion s
  | .cfgWord w => Sys2Proof.Machine.execCfgWord w s
  | .muxDiff01 => Sys2Proof.Machine.execMuxDiff01 s
  | .muxDiff03 => Sys2Proof.Machine.execMuxDiff03 s
  | .muxDiff13 => Sys2Proof.Machine.execMuxDiff13 s
  | .muxDiff23 => Sys2Proof.Machine.execMuxDiff23 s
  | .muxSingle0 => Sys2Proof.Machine.execMuxSingle0 s
  | .muxSingle1 => Sys2Proof.Machine.execMuxSingle1 s
  | .muxSingle2 => Sys2Proof.Machine.execMuxSingle2 s
  | .muxSingle3 => Sys2Proof.Machine.execMuxSingle3 s
  | .pga6144 => Sys2Proof.Machine.execPga6144 s
  | .pga4096 => Sys2Proof.Machine.execPga4096 s
  | .pga2048 => Sys2Proof.Machine.execPga2048 s
  | .pga1024 => Sys2Proof.Machine.execPga1024 s
  | .pga0512 => Sys2Proof.Machine.execPga0512 s
  | .pga0256 => Sys2Proof.Machine.execPga0256 s
  | .modeContinuous => Sys2Proof.Machine.execModeContinuous s
  | .modeSingleShot => Sys2Proof.Machine.execModeSingleShot s
  | .rate8 => Sys2Proof.Machine.execRate8 s
  | .rate16 => Sys2Proof.Machine.execRate16 s
  | .rate32 => Sys2Proof.Machine.execRate32 s
  | .rate64 => Sys2Proof.Machine.execRate64 s
  | .rate128 => Sys2Proof.Machine.execRate128 s
  | .rate250 => Sys2Proof.Machine.execRate250 s
  | .rate475 => Sys2Proof.Machine.execRate475 s
  | .rate860 => Sys2Proof.Machine.execRate860 s
  | .statusStart => Sys2Proof.Machine.execStatusStart s
  | .statusBusy => Sys2Proof.Machine.execStatusBusy s
  | .statusReady => Sys2Proof.Machine.execStatusReady s

end Sys2Proof.Machine
end

