-- ==== Sys2Proof/Machine/Fetch.lean ====
section
/-! DEFINITION. Whose turn a step is, and what the block takes up: the next transition of the ReadSample in progress, or the
next command that the host presents (00_scope.md R8; 42_conversion_sequencer.md R101; log 1, log 3). -/

namespace Sys2Proof.Machine

/-- What a step comes to. -/
inductive Turn where
  /-- the step is over in this state -/
  | done (t : State)
  /-- the block runs this instruction in this state -/
  | run (i : Instr) (t : State)
  /-- what is presented has no meaning -/
  | stop (r : Refusal)
  deriving DecidableEq, Repr

/-- An encoding that is no instruction: a malformed command (60_exceptions.md R124), a value outside its enumeration (R120,
after the handle check, R126), a written word with no start (30_encoding.md R58; log 17), a frame never sent (R68). -/
def rejectTurn (r : Reject) (s : State) : Turn :=
  match r with
  | .reservedOp => .done (s.raise .illegalCommand)
  | .operandNotZero => .done (s.raise .illegalCommand)
  | .addressTooWide => .done (s.raise .illegalCommand)
  | .notInEnumeration => .done (s.withHandle fun _ => s.raise .invalidFieldValue)
  | .noStart => .done s
  | .neverIssued => .stop .neverIssued
  | .undefinedPointer => .stop .undefinedPointer

/-- An item before an idle block. -/
def itemTurn (it : Item) (s : State) : Turn :=
  match decode it with
  | .instr i => .run i s
  | .rejected r => rejectTurn r s

/-- What stands before an idle block: a row run on its own (log 21), else the host's next command word (30_encoding.md R69). -/
def State.presented (s : State) : Option Item :=
  match s.bench with
  | it :: _ => some it
  | [] => s.port.head?.map Item.command

/-- What stands before the block is taken up. -/
def State.taken (s : State) : State :=
  match s.bench with
  | _ :: rest => { s with bench := rest }
  | [] => { s with port := s.port.tail }

/-- The block's turn: a ReadSample in progress goes on, and no other operation begins before it has ended (R101, R132). -/
def blockTurn (s : State) : Turn :=
  match s.seq with
  | .idle =>
    match s.presented with
    | none => .done s
    | some it => itemTurn it s.taken
  | .triggered => .run .readSample s
  | .polling => .run .readSample s
  | .ready => .run .readSample s

/-- The turn that an event gives. DESIGN CHOICE (log 3): a device step that is not enabled leaves the turn to the block. -/
def eventTurn (e : Event) (s : State) : Turn :=
  match e with
  | .turn .block => blockTurn s
  | .turn .convDone => if s.convDoneEnabled then .done s.convDone else blockTurn s
  | .turn .contUpdate => if s.contUpdateEnabled then .done s.contUpdate else blockTurn s
  | .blockReset => .done s.blockReset
  | .deviceReset => .done s.deviceReset

/-- The turn of the next step. -/
def turn (s : State) : Turn := eventTurn s.inputs.event s.dropEvent

/-- `it` stands before the block, the block is idle, and the next turn is the block's. A command word is the host's, with no row
before it; every other item is a row run on its own. -/
def State.present (it : Item) (s : State) : State :=
  let t := { s with seq := .idle, inputs := { s.inputs with events := .turn .block :: s.inputs.events } }
  match it with
  | .command w => { t with port := w :: s.port, bench := [] }
  | _ => { t with bench := it :: s.bench }

end Sys2Proof.Machine
end

