-- ==== Sys2Proof/Machine/Step.lean ====
section
/-! DEFINITION. One step of the machine, and the placing of an encoding where the next step takes it up. -/

namespace Sys2Proof.Machine

/-- One step: whose turn it is, and what that comes to. -/
def step (s : State) : Host.Outcome State Fault Refusal :=
  match turn s with
  | .done t => .next t
  | .run i t => exec i t
  | .stop r => .refused r

/-- `s` with the opcode table's number `w` presented next (log 1). -/
def State.withFetchWord (s : State) (nbits w : Nat) : State := s.present (itemOfTable nbits w)

end Sys2Proof.Machine
end

