-- ==== Sys2Proof/Safety.lean ====
section
/-! DEFINITION. What a safe state and a safe run are, in the terms of the spec's whole-machine rules. -/

namespace Sys2Proof

/-- The setter of a field (40_field_setters.md R79 to R82). -/
def Field.setter : Field → Word → Instr
  | .mux => .setInputMux
  | .pga => .setGain
  | .mode => .setMode
  | .dr => .setDataRate

/-- The item is no write frame. -/
def Item.notWriteFrame : Item → Bool
  | .writeFrame _ => false
  | _ => true

end Sys2Proof

namespace Sys2Proof.Machine

/-- The sequencer is sound (42_conversion_sequencer.md R88, R92, R97). A ReadSample is in progress only with a handle; while
it waits, the device is in single-shot mode; and when it is about to read a sample it asked for, the device is in single-shot
mode and no conversion is in progress: no false ready. -/
def SequencerSound (s : State) : Prop :=
  (s.seq ≠ .idle → s.inited = true) ∧
    (s.seq = .triggered ∨ s.seq = .polling → s.dev.singleShot = true) ∧
      ∀ h, s.seq = .ready → s.handle = some h → singleShot h.cfg = true →
        s.dev.singleShot = true ∧ s.dev.busy = false

/-- The bound of the poll loop is kept (R94): `MAX_POLL` is at least 1, and the counter stays within it. -/
def PollBounded (s : State) : Prop :=
  ∀ m, s.maxPoll = some m → 1 ≤ m ∧ (s.seq = .polling → s.polls ≤ m)

/-- `SYNC` tells the truth (10_state.md R18): Clean means that mirror and device hold the same bits 14..0. -/
def SyncTruthful (s : State) : Prop :=
  s.sync = .clean → ∃ h, s.handle = some h ∧ storedPart h.cfg = s.dev.config

/-- Only the block's operations write the device (20_memory.md R33, D29), and the device is not power-cycled: no write frame is
run on its own (log 10) and no device reset is scripted. -/
def OneWriter (s : State) : Prop :=
  (s.bench.all Item.notWriteFrame = true) ∧ Event.deviceReset ∉ s.inputs.events

/-- A transport call of one of the two shapes the block issues (20_memory.md R35, R40; 30_encoding.md R66, R67). -/
def BusCall.wellShaped : BusCall → Bool
  | .write _ bytes _ => bytes.length == 3 && bytes.head? == some 0x01#8
  | .read _ bytes _ => bytes == [0x01#8] || bytes == [0x00#8]

/-- How many more turns of the block a ReadSample in progress can take when `MAX_POLL` is `m` (R94, R105). -/
def sampleRank (m : Nat) (s : State) : Nat :=
  match s.seq with
  | .idle => 0
  | .triggered => m + 3
  | .polling => m - s.polls + 2
  | .ready => 1

/-- One setter after another (40_field_setters.md R83 (6)). -/
def runSetters : List (Field × Word) → State → Host.Outcome State Fault Refusal
  | [], s => .next s
  | (f, v) :: rest, s =>
    match exec (f.setter v) s with
    | .next t => runSetters rest t
    | .fault r => .fault r
    | .refused r => .refused r

/-- The value of a finite binary float (43_voltage_scaling.md R111). -/
def Fp.value (x : Fp) : ℚ := (if x.sign then -1 else 1) * (x.man : ℚ) * (2 : ℚ) ^ x.exp

/-- The value of a finite binary32 pattern: sign bit 31, exponent bits 30..23, fraction bits 22..0 (R111, IEEE 754). -/
def binary32Value (w : BitVec 32) : ℚ :=
  let e := (w.extractLsb' 23 8).toNat
  let f := (w.extractLsb' 0 23).toNat
  (if w.getLsbD 31 then -1 else 1) * (if e = 0 then (f : ℚ) * (2 : ℚ) ^ (-149 : Int) else ((2 ^ 23 + f : Nat) : ℚ) * (2 : ℚ) ^ ((e : Int) - 150))

/-- Device steps one after another, each where it is enabled (42_conversion_sequencer.md R102, R103); none where one is not. -/
def deviceTurns : List Agent → State → Option State
  | [], s => some s
  | .block :: _, _ => none
  | .convDone :: rest, s => if s.convDoneEnabled then deviceTurns rest s.dropEvent.convDone else none
  | .contUpdate :: rest, s => if s.contUpdateEnabled then deviceTurns rest s.dropEvent.contUpdate else none

/-- Every transport call made has one of the two shapes. -/
def BusWellShaped (s : State) : Prop := s.trace.all BusCall.wellShaped = true

end Sys2Proof.Machine
end

