-- ==== Sys2Proof/Certificates/Slice0/Obligations.lean ====
section
/-! DEFINITION. The statements for the provers. A statement that gives a whole next state says with it what stays: every field
not named is the field of `s`. -/

open Sys2Proof Sys2Proof.Machine

/-! ### Encodings -/

/-- 30_encoding.md R69, R70: encoding any well-formed instruction and decoding it gives the instruction back, with every operand. -/
def Obligations.DecodeEncodeRoundTrip : Prop :=
  ∀ i : Instr, i.WellFormed → decode (encode i) = .instr i

/-- R57, R69, R72: a command word, a bus frame, a layout word or a field value that decodes to an instruction is exactly its encoding,
so no bit of it is ignored; R58, 42_conversion_sequencer.md R92: of a status word bit 15 decides, and no other bit. -/
def Obligations.DecodedWordIsEncoding : Prop :=
  (∀ (it : Item) (i : Instr), (∀ w, it ≠ .statusWritten w ∧ it ≠ .statusRead w) → decode it = .instr i →
    i.WellFormed ∧ encode i = it) ∧
  ∀ w : Word,
    decode (.statusWritten w) = (if w.getLsbD 15 then .instr .statusStart else .rejected .noStart) ∧
    decode (.statusRead w) = .instr (if w.getLsbD 15 then .statusReady else .statusBusy)

/-- R70, R72: the command words of 95_test_vectors.md 2.5 decode as that table says (of its last row the two ends), and one frame of
each kind as R66 and R67 say. -/
def Obligations.CommandWordsDecodeAsTable : Prop :=
  decode (.command 0x00048#20) = .instr (.initialise 0x0048#16) ∧
  decode (.command 0x0007F#20) = .instr (.initialise 0x007F#16) ∧
  decode (.command 0x00080#20) = .rejected .addressTooWide ∧
  decode (.command 0x11000#20) = .instr (.setInputMux 0x1000#16) ∧
  decode (.command 0x20C00#20) = .instr (.setGain 0x0C00#16) ∧
  decode (.command 0x30100#20) = .instr (.setMode 0x0100#16) ∧
  decode (.command 0x400C0#20) = .instr (.setDataRate 0x00C0#16) ∧
  decode (.command 0x50000#20) = .instr .commit ∧
  decode (.command 0x50001#20) = .rejected .operandNotZero ∧
  decode (.command 0x60000#20) = .instr .refresh ∧
  decode (.command 0x70000#20) = .instr .readSample ∧
  decode (.command 0x7FFFF#20) = .rejected .operandNotZero ∧
  decode (.command 0x81234#20) = .instr (.toVolts 0x1234#16) ∧
  decode (.command 0x8FFFF#20) = .instr (.toVolts 0xFFFF#16) ∧
  decode (.command 0x90000#20) = .rejected .reservedOp ∧
  decode (.command 0xFFFFF#20) = .rejected .reservedOp ∧
  decode (.writeFrame 0x0193C3#24) = .instr (.regWrite 0x93C3#16) ∧
  decode (.readFrame 0x01#8) = .instr .regReadConfig ∧
  decode (.readFrame 0x00#8) = .instr .regReadConversion

/-- R56: the six masks cover the word and no two overlap. -/
def Obligations.FieldMasksPartitionWord : Prop :=
  statusMask ||| Field.mux.mask ||| Field.pga.mask ||| Field.mode.mask ||| Field.dr.mask ||| compMask = 0xFFFF#16 ∧
  statusMask.toNat + Field.mux.mask.toNat + Field.pga.mask.toNat + Field.mode.mask.toNat + Field.dr.mask.toNat + compMask.toNat
    = 0xFFFF ∧
  [statusMask, Field.mux.mask, Field.pga.mask, Field.mode.mask, Field.dr.mask, compMask] =
    [0x8000#16, 0x7000#16, 0x0E00#16, 0x0100#16, 0x00E0#16, 0x001F#16]

/-- R64: which operands of each setter are legal, over all 65536 words. -/
def Obligations.LegalOperandsAreEnumerations : Prop :=
  (∀ v : Word, Field.mux.legal v = true ↔
    v ∈ [0x0000#16, 0x1000#16, 0x2000#16, 0x3000#16, 0x4000#16, 0x5000#16, 0x6000#16, 0x7000#16]) ∧
  (∀ v : Word, Field.pga.legal v = true ↔ v ∈ [0x0000#16, 0x0200#16, 0x0400#16, 0x0600#16, 0x0800#16, 0x0A00#16]) ∧
  (∀ v : Word, Field.mode.legal v = true ↔ v ∈ [0x0000#16, 0x0100#16]) ∧
  (∀ v : Word, Field.dr.legal v = true ↔
    v ∈ [0x0000#16, 0x0020#16, 0x0040#16, 0x0060#16, 0x0080#16, 0x00A0#16, 0x00C0#16, 0x00E0#16])

/-- R65: the power-on word 0x8583, field by field: code, value and meaning. -/
def Obligations.PowerOnWordDecoding : Prop :=
  (0x8583#16 : Word) = 0b1000010110000011#16 ∧ (0x8583#16 : Word).toNat = 34179 ∧
  (0x8583#16 &&& statusMask = 0x8000#16 ∧ statusReads 0x8583#16 = true) ∧
  (Field.mux.code 0x8583#16 = 0 ∧ 0x8583#16 &&& Field.mux.mask = 0x0000#16 ∧
    decode (.value .mux (0x8583#16 &&& Field.mux.mask)) = .instr .muxDiff01) ∧
  (Field.pga.code 0x8583#16 = 2 ∧ 0x8583#16 &&& Field.pga.mask = 0x0400#16 ∧
    decode (.value .pga (0x8583#16 &&& Field.pga.mask)) = .instr .pga2048 ∧ fullScale 2 = some 2048) ∧
  (Field.mode.code 0x8583#16 = 1 ∧ 0x8583#16 &&& Field.mode.mask = 0x0100#16 ∧
    decode (.value .mode (0x8583#16 &&& Field.mode.mask)) = .instr .modeSingleShot) ∧
  (Field.dr.code 0x8583#16 = 4 ∧ 0x8583#16 &&& Field.dr.mask = 0x0080#16 ∧
    decode (.value .dr (0x8583#16 &&& Field.dr.mask)) = .instr .rate128) ∧
  0x8583#16 &&& compMask = 0x0003#16 ∧
  0x8000#16 + 0x0000#16 + 0x0400#16 + 0x0100#16 + 0x0080#16 + 0x0003#16 = (0x8583#16 : Word) ∧
  0x8583#16 &&& ~~~statusMask = 0x0583#16 ∧ (0x0583#16 : Word).toNat = 1411

/-! ### What a step runs -/

/-- 00_scope.md R2, R8, 42_conversion_sequencer.md R101: with the block idle and its turn, a step takes the host's command word off the
port and is `exec` of the instruction it decodes to, which is one of the nine operations. A row of the table run on its own (log 21)
is taken off the bench in the same way. `dropEvent` is the scheduler's own field (log 3). -/
def Obligations.StepRunsDecodedInstruction : Prop :=
  ∀ (s : State) (i : Instr), s.seq = .idle → s.inputs.event = .turn .block →
    (∀ (w : BitVec 20) (rest : List (BitVec 20)), s.bench = [] → s.port = w :: rest → decode (.command w) = .instr i →
      (∃ v : Word, i ∈ [Instr.initialise v, .setInputMux v, .setGain v, .setMode v, .setDataRate v, .commit, .refresh, .readSample,
        .toVolts v]) ∧
      step s = exec i { s with port := rest, inputs := s.inputs.dropEvent }) ∧
    (∀ (it : Item) (rest : List Item), s.bench = it :: rest → decode it = .instr i →
      step s = exec i { s with bench := rest, inputs := s.inputs.dropEvent })

/-- R101: while a ReadSample is in progress the block's turn is its next transition, whatever is presented. -/
def Obligations.StepContinuesReadSample : Prop :=
  ∀ s : State, s.seq ≠ .idle → s.inputs.event = .turn .block →
    step s = exec .readSample { s with inputs := s.inputs.dropEvent }

/-- 30_encoding.md R72, 60_exceptions.md R124, R126: a malformed command word ends in IllegalCommand and writes nothing but `ERR`,
before the handle check. -/
def Obligations.MalformedCommandIsIllegal : Prop :=
  ∀ (s : State) (w : BitVec 20) (rest : List (BitVec 20)),
    s.seq = .idle → s.bench = [] → s.port = w :: rest → s.inputs.event = .turn .block →
    (9 ≤ (w >>> 16).toNat ∨ (5 ≤ (w >>> 16).toNat ∧ (w >>> 16).toNat ≤ 7 ∧ w.extractLsb' 0 16 ≠ 0#16) ∨
      ((w >>> 16).toNat = 0 ∧ w.extractLsb' 7 9 ≠ 0#9)) →
    step s = .next { s with port := rest, inputs := s.inputs.dropEvent, err := .illegalCommand }

/-- 10_state.md R21, 20_memory.md R34, R44, R45, 30_encoding.md R68: the four pointer bytes and no others select a register; a frame in a
direction in which the block never accesses the register is refused as such, one that selects no register as undefined; no step but a
device reset changes a threshold register. -/
def Obligations.PointerMapIsClosed : Prop :=
  [PointerReg.conversion, .config, .loThresh, .hiThresh].map PointerReg.address = [0x00#8, 0x01#8, 0x02#8, 0x03#8] ∧
  (∀ (p : Byte) (r : PointerReg), PointerReg.ofAddress p = some r ↔ r.address = p) ∧
  (∀ p : Byte, PointerReg.ofAddress p = none ↔ 4 ≤ p.toNat) ∧
  (∀ (s : State) (rest : List Item), s.seq = .idle → s.inputs.event = .turn .block →
    (∀ w : BitVec 24, s.bench = .writeFrame w :: rest → w.extractLsb' 16 8 ≠ 0x01#8 →
      step s = .refused (if (w.extractLsb' 16 8).toNat < 4 then .neverIssued else .undefinedPointer)) ∧
    (∀ w : Byte, s.bench = .readFrame w :: rest → 2 ≤ w.toNat →
      step s = .refused (if w.toNat < 4 then .neverIssued else .undefinedPointer))) ∧
  ∀ s t : State, step s = .next t → s.inputs.event ≠ .deviceReset →
    ∀ r ∈ [PointerReg.loThresh, .hiThresh], t.dev.register r = s.dev.register r

/-- The opcode table's row CFG_WORD is "not an instruction": it is refused in every state (R2, R55). -/
def Obligations.LayoutRowIsRefused : Prop :=
  ∀ (w : Word) (s : State), exec (.cfgWord w) s = .refused .layoutDescriptor

/-! ### Setters -/

/-- 40_field_setters.md R79. -/
def Obligations.SetInputMuxEffect : Prop :=
  ∀ (v : Word) (s : State),
    decode (.command (0x1#4 ++ v)) = .instr (.setInputMux v) ∧
    (s.handle = none → exec (.setInputMux v) s = .next { s with err := .noHandle, seq := .idle }) ∧
    (∀ h, s.handle = some h → v &&& 0x8FFF#16 ≠ 0#16 →
      exec (.setInputMux v) s = .next { s with err := .invalidFieldValue, seq := .idle }) ∧
    (∀ h, s.handle = some h → v &&& 0x8FFF#16 = 0#16 →
      exec (.setInputMux v) s =
        .next { s with handle := some { h with cfg := (h.cfg &&& 0x8FFF#16) ||| v }, sync := .dirty, err := .ok })

/-- R80. -/
def Obligations.SetGainEffect : Prop :=
  ∀ (v : Word) (s : State),
    decode (.command (0x2#4 ++ v)) = .instr (.setGain v) ∧
    (s.handle = none → exec (.setGain v) s = .next { s with err := .noHandle, seq := .idle }) ∧
    (∀ h, s.handle = some h → (v &&& 0xF1FF#16 ≠ 0#16 ∨ v = 0x0C00#16 ∨ v = 0x0E00#16) →
      exec (.setGain v) s = .next { s with err := .invalidFieldValue, seq := .idle }) ∧
    (∀ h, s.handle = some h → v &&& 0xF1FF#16 = 0#16 → v ≠ 0x0C00#16 → v ≠ 0x0E00#16 →
      exec (.setGain v) s =
        .next { s with handle := some { h with cfg := (h.cfg &&& 0xF1FF#16) ||| v }, sync := .dirty, err := .ok })

/-- R81. -/
def Obligations.SetModeEffect : Prop :=
  ∀ (v : Word) (s : State),
    decode (.command (0x3#4 ++ v)) = .instr (.setMode v) ∧
    (s.handle = none → exec (.setMode v) s = .next { s with err := .noHandle, seq := .idle }) ∧
    (∀ h, s.handle = some h → v &&& 0xFEFF#16 ≠ 0#16 →
      exec (.setMode v) s = .next { s with err := .invalidFieldValue, seq := .idle }) ∧
    (∀ h, s.handle = some h → v &&& 0xFEFF#16 = 0#16 →
      exec (.setMode v) s =
        .next { s with handle := some { h with cfg := (h.cfg &&& 0xFEFF#16) ||| v }, sync := .dirty, err := .ok })

/-- R82. -/
def Obligations.SetDataRateEffect : Prop :=
  ∀ (v : Word) (s : State),
    decode (.command (0x4#4 ++ v)) = .instr (.setDataRate v) ∧
    (s.handle = none → exec (.setDataRate v) s = .next { s with err := .noHandle, seq := .idle }) ∧
    (∀ h, s.handle = some h → v &&& 0xFF1F#16 ≠ 0#16 →
      exec (.setDataRate v) s = .next { s with err := .invalidFieldValue, seq := .idle }) ∧
    (∀ h, s.handle = some h → v &&& 0xFF1F#16 = 0#16 →
      exec (.setDataRate v) s =
        .next { s with handle := some { h with cfg := (h.cfg &&& 0xFF1F#16) ||| v }, sync := .dirty, err := .ok })

/-- R59, R60, R61, R62 with log 11: each named field value, run on its own, is selected in the mirror, or ends with NoHandle. A value
outside its field's enumeration (R64) is rejected as its setter rejects it, NoHandle first (60_exceptions.md R120, R126; log 17). -/
def Obligations.FieldValueRowsSelectValue : Prop :=
  (∀ s : State, s.handle = none →
    ∀ i ∈ [Instr.muxDiff01, .muxDiff03, .muxDiff13, .muxDiff23, .muxSingle0, .muxSingle1, .muxSingle2, .muxSingle3,
        .pga6144, .pga4096, .pga2048, .pga1024, .pga0512, .pga0256, .modeContinuous, .modeSingleShot,
        .rate8, .rate16, .rate32, .rate64, .rate128, .rate250, .rate475, .rate860],
      exec i s = .next { s with err := .noHandle, seq := .idle }) ∧
  (∀ (s : State) (h : Handle), s.handle = some h →
    (∀ p ∈ [(Instr.muxDiff01, 0x0000#16), (.muxDiff03, 0x1000#16), (.muxDiff13, 0x2000#16), (.muxDiff23, 0x3000#16),
        (.muxSingle0, 0x4000#16), (.muxSingle1, 0x5000#16), (.muxSingle2, 0x6000#16), (.muxSingle3, 0x7000#16)],
      exec p.1 s =
        .next { s with handle := some { h with cfg := (h.cfg &&& 0x8FFF#16) ||| p.2 }, sync := .dirty, err := .ok }) ∧
    (∀ p ∈ [(Instr.pga6144, 0x0000#16), (.pga4096, 0x0200#16), (.pga2048, 0x0400#16), (.pga1024, 0x0600#16),
        (.pga0512, 0x0800#16), (.pga0256, 0x0A00#16)],
      exec p.1 s =
        .next { s with handle := some { h with cfg := (h.cfg &&& 0xF1FF#16) ||| p.2 }, sync := .dirty, err := .ok }) ∧
    (∀ p ∈ [(Instr.modeContinuous, 0x0000#16), (.modeSingleShot, 0x0100#16)],
      exec p.1 s =
        .next { s with handle := some { h with cfg := (h.cfg &&& 0xFEFF#16) ||| p.2 }, sync := .dirty, err := .ok }) ∧
    (∀ p ∈ [(Instr.rate8, 0x0000#16), (.rate16, 0x0020#16), (.rate32, 0x0040#16), (.rate64, 0x0060#16),
        (.rate128, 0x0080#16), (.rate250, 0x00A0#16), (.rate475, 0x00C0#16), (.rate860, 0x00E0#16)],
      exec p.1 s =
        .next { s with handle := some { h with cfg := (h.cfg &&& 0xFF1F#16) ||| p.2 }, sync := .dirty, err := .ok })) ∧
  ∀ (s : State) (f : Field) (v : Word) (rest : List Item),
    s.seq = .idle → s.inputs.event = .turn .block → s.bench = .value f v :: rest → f.legal v = false →
    step s =
      .next { s with
        bench := rest
        inputs := s.inputs.dropEvent
        err := if s.inited then .invalidFieldValue else .noHandle }

/-- R75 and R83 (1), (2): every setter that succeeds leaves its field reading the operand and every other bit as it was. -/
def Obligations.SetterReadBackAndIsolation : Prop :=
  ∀ (f : Field) (v : Word) (s t : State) (h : Handle),
    s.handle = some h → f.legal v = true → exec (f.setter v) s = .next t →
    ∃ h', t.handle = some h' ∧ h'.cfg = (h.cfg &&& ~~~f.mask) ||| v ∧ h'.cfg &&& f.mask = v ∧
      h'.cfg &&& ~~~f.mask = h.cfg &&& ~~~f.mask

/-- R83 (3), (4): the last of two writes of one field wins; the same write twice is the write once. -/
def Obligations.SetterLastWriteWins : Prop :=
  ∀ (f : Field) (v w : Word) (s t : State) (h : Handle),
    s.handle = some h → f.legal v = true → f.legal w = true → exec (f.setter v) s = .next t →
    exec (f.setter w) t = exec (f.setter w) s ∧ exec (f.setter v) t = .next t

/-- R83 (5): setters of two fields commute. -/
def Obligations.SettersOfTwoFieldsCommute : Prop :=
  ∀ (f g : Field) (v w : Word) (s : State) (h : Handle),
    f ≠ g → s.handle = some h → f.legal v = true → g.legal w = true →
    ∃ t, runSetters [(f, v), (g, w)] s = .next t ∧ runSetters [(g, w), (f, v)] s = .next t

/-- R83 (6), (7): no sequence of setters, accepted or rejected, changes bit 15 or bits 4..0 of the mirror, the address, the
device, or the bus history. -/
def Obligations.SetterSequencesKeepStatusAndComparator : Prop :=
  ∀ (l : List (Field × Word)) (s : State) (h : Handle), s.handle = some h →
    ∃ t h', runSetters l s = .next t ∧ t.handle = some h' ∧ h'.addr = h.addr ∧
      h'.cfg &&& 0x801F#16 = h.cfg &&& 0x801F#16 ∧ t.dev = s.dev ∧ t.trace = s.trace ∧ t.sample = s.sample

/-! ### Register I/O -/

/-- 41_register_io.md R84: what a successful Initialize writes, with the read on the bus (20_memory.md R38, R43). -/
def Obligations.InitializeBindsHandle : Prop :=
  ∀ (a : BusAddr) (s : State), s.inputs.answer = .ok →
    let ready := if s.dev.config.getLsbD 8 then !s.dev.busy else s.inputs.dropAnswer.bit
    let v : Word := (if ready then 0x8000#16 else 0#16) ||| s.dev.config.setWidth 16
    exec (.initialise (a.setWidth 16)) s =
      .next { s with
        handle := some { addr := a, cfg := v }
        sync := .clean
        err := .ok
        dev := { s.dev with ptr := 0x01#8 }
        inputs := if s.dev.config.getLsbD 8 then s.inputs.dropAnswer else s.inputs.dropAnswer.dropBit
        trace := s.trace ++ [.read a [0x01#8] (some (v.extractLsb' 8 8, v.extractLsb' 0 8))] }

/-- R84: a failed Initialize makes no handle and leaves an old one; an operand with bits 15..7 not zero is illegal. -/
def Obligations.InitializeFailureKeepsHandle : Prop :=
  ∀ s : State,
    (∀ a : BusAddr, s.inputs.answer = .transportError →
      exec (.initialise (a.setWidth 16)) s =
        .next { s with
          err := .transportError
          seq := .idle
          inputs := s.inputs.dropAnswer
          trace := s.trace ++ [.read a [0x01#8] none] }) ∧
    (∀ w : Word, w >>> 7 ≠ 0#16 → exec (.initialise w) s = .next { s with err := .illegalCommand, seq := .idle })

/-- 41_register_io.md R85, 20_memory.md R37, R42, R46: a Commit that the transport answers with success, and one that fails: the mirror
stays set, the device's word and busy bit are draws. -/
def Obligations.CommitEffect : Prop :=
  ∀ (s : State) (h : Handle), s.handle = some h →
    let leaves := !h.cfg.getLsbD 15 && (!s.dev.config.getLsbD 8 && h.cfg.getLsbD 8)
    (s.inputs.answer = .ok →
      exec .commit s =
        .next { s with
          sync := .clean
          err := .ok
          dev :=
            { s.dev with
              config := h.cfg.setWidth 15
              busy := if h.cfg.getLsbD 15 then true else if leaves then s.inputs.dropAnswer.bit else s.dev.busy
              ptr := 0x01#8 }
          inputs := if leaves then s.inputs.dropAnswer.dropBit else s.inputs.dropAnswer
          trace := s.trace ++ [.write h.addr [0x01#8, h.cfg.extractLsb' 8 8, h.cfg.extractLsb' 0 8] .ok] }) ∧
    (s.inputs.answer = .transportError →
      exec .commit s =
        .next { s with
          sync := .dirty
          err := .transportError
          seq := .idle
          dev := { s.dev with config := s.inputs.dropAnswer.config, busy := s.inputs.dropAnswer.dropConfig.bit }
          inputs := s.inputs.dropAnswer.dropConfig.dropBit
          trace := s.trace ++ [.write h.addr [0x01#8, h.cfg.extractLsb' 8 8, h.cfg.extractLsb' 0 8] .transportError] })

/-- 41_register_io.md R86, 20_memory.md R38, R43: a Refresh that succeeds loads the device's word, status bit included; one that fails
keeps mirror, `SYNC` and device. -/
def Obligations.RefreshEffect : Prop :=
  ∀ (s : State) (h : Handle), s.handle = some h →
    let ready := if s.dev.config.getLsbD 8 then !s.dev.busy else s.inputs.dropAnswer.bit
    let v : Word := (if ready then 0x8000#16 else 0#16) ||| s.dev.config.setWidth 16
    (s.inputs.answer = .ok →
      exec .refresh s =
        .next { s with
          handle := some { h with cfg := v }
          sync := .clean
          err := .ok
          dev := { s.dev with ptr := 0x01#8 }
          inputs := if s.dev.config.getLsbD 8 then s.inputs.dropAnswer else s.inputs.dropAnswer.dropBit
          trace := s.trace ++ [.read h.addr [0x01#8] (some (v.extractLsb' 8 8, v.extractLsb' 0 8))] }) ∧
    (s.inputs.answer = .transportError →
      exec .refresh s =
        .next { s with
          err := .transportError
          seq := .idle
          inputs := s.inputs.dropAnswer
          trace := s.trace ++ [.read h.addr [0x01#8] none] })

/-- 41_register_io.md R87. Commit then Refresh keeps bits 14..0 of the mirror; in single-shot mode bit 15 then reads 0 after a start
and the device's idle status otherwise. Refresh then Commit keeps the device's word, and leaves a conversion in progress: the one
it started if the device was idle, else the one that was. Refresh then Refresh differs in bit 15 only. -/
def Obligations.CommitRefreshPairLaws : Prop :=
  ∀ (s t u : State) (h : Handle), s.handle = some h → t.err = .ok → u.err = .ok →
    (h.cfg.getLsbD 8 = true → exec .commit s = .next t → exec .refresh t = .next u →
      ∃ h', u.handle = some h' ∧ h'.addr = h.addr ∧ h'.cfg &&& 0x7FFF#16 = h.cfg &&& 0x7FFF#16 ∧
        h'.cfg.getLsbD 15 = (if h.cfg.getLsbD 15 then false else !t.dev.busy) ∧ u.dev.config = h.cfg.setWidth 15) ∧
    (s.dev.config.getLsbD 8 = true → exec .refresh s = .next t → exec .commit t = .next u →
      u.dev.config = s.dev.config ∧ u.dev.busy = true ∧ u.sync = .clean) ∧
    (exec .refresh s = .next t → exec .refresh t = .next u →
      ∃ h1 h2, t.handle = some h1 ∧ u.handle = some h2 ∧ h1.cfg &&& 0x7FFF#16 = h2.cfg &&& 0x7FFF#16)

/-- 30_encoding.md R66 with log 10: the write frame on its own, without a handle, done and failed. -/
def Obligations.WriteFrameEffect : Prop :=
  ∀ (v : Word) (s : State) (h : Handle),
    let leaves := !v.getLsbD 15 && (!s.dev.config.getLsbD 8 && v.getLsbD 8)
    (s.handle = none → exec (.regWrite v) s = .next { s with err := .noHandle, seq := .idle }) ∧
    (s.handle = some h → s.inputs.answer = .ok →
      exec (.regWrite v) s =
        .next { s with
          err := .ok
          dev :=
            { s.dev with
              config := v.setWidth 15
              busy := if v.getLsbD 15 then true else if leaves then s.inputs.dropAnswer.bit else s.dev.busy
              ptr := 0x01#8 }
          inputs := if leaves then s.inputs.dropAnswer.dropBit else s.inputs.dropAnswer
          trace := s.trace ++ [.write h.addr [0x01#8, v.extractLsb' 8 8, v.extractLsb' 0 8] .ok] }) ∧
    (s.handle = some h → s.inputs.answer = .transportError →
      exec (.regWrite v) s =
        .next { s with
          err := .transportError
          seq := .idle
          dev := { s.dev with config := s.inputs.dropAnswer.config, busy := s.inputs.dropAnswer.dropConfig.bit }
          inputs := s.inputs.dropAnswer.dropConfig.dropBit
          trace := s.trace ++ [.write h.addr [0x01#8, v.extractLsb' 8 8, v.extractLsb' 0 8] .transportError] })

/-- R67, 20_memory.md R43, R44 with log 10: the two read frames on their own change no device register but the pointer; without a
handle, and when the transport fails, they change nothing of the device. -/
def Obligations.ReadFramesEffect : Prop :=
  ∀ (s : State) (h : Handle),
    (s.handle = none → ∀ i ∈ [Instr.regReadConfig, .regReadConversion],
      exec i s = .next { s with err := .noHandle, seq := .idle }) ∧
    (s.handle = some h → s.inputs.answer = .transportError → ∀ p ∈ [(Instr.regReadConfig, 0x01#8), (.regReadConversion, 0x00#8)],
      exec p.1 s =
        .next { s with
          err := .transportError
          seq := .idle
          inputs := s.inputs.dropAnswer
          trace := s.trace ++ [.read h.addr [p.2] none] }) ∧
    (s.handle = some h → s.inputs.answer = .ok →
     let ready := if s.dev.config.getLsbD 8 then !s.dev.busy else s.inputs.dropAnswer.bit
     let v : Word := (if ready then 0x8000#16 else 0#16) ||| s.dev.config.setWidth 16
     exec .regReadConfig s =
      .next { s with
        err := .ok
        dev := { s.dev with ptr := 0x01#8 }
        inputs := if s.dev.config.getLsbD 8 then s.inputs.dropAnswer else s.inputs.dropAnswer.dropBit
        trace := s.trace ++ [.read h.addr [0x01#8] (some (v.extractLsb' 8 8, v.extractLsb' 0 8))] }) ∧
    (s.handle = some h → s.inputs.answer = .ok →
     exec .regReadConversion s =
      .next { s with
        err := .ok
        dev := { s.dev with ptr := 0x00#8 }
        inputs := s.inputs.dropAnswer
        trace := s.trace ++ [.read h.addr [0x00#8] (some (s.dev.conv.extractLsb' 8 8, s.dev.conv.extractLsb' 0 8))] })

/-- 60_exceptions.md R123: every operation but Initialize ends with NoHandle before a handle exists, and nothing but `ERR` is
written; `SEQ` is Idle, as after every error (R127). -/
def Obligations.NoHandleBeforeInitialize : Prop :=
  ∀ (v : Word) (s : State), s.handle = none →
    ∀ i ∈ [Instr.setInputMux v, .setGain v, .setMode v, .setDataRate v, .commit, .refresh, .readSample, .toVolts v],
      exec i s = .next { s with err := .noHandle, seq := .idle }

/-! ### The conversion sequencer -/

/-- 42_conversion_sequencer.md R88, R90, R91, R99, R100 (Idle) with log 6 for `ptr`: the trigger of a single-shot ReadSample, done and failed. -/
def Obligations.ReadSampleTriggersConversion : Prop :=
  ∀ (s : State) (h : Handle), s.handle = some h → s.seq = .idle → h.cfg.getLsbD 8 = true →
    let w := h.cfg ||| 0x8000#16
    (s.inputs.answer = .ok →
      exec .readSample s =
        .next { s with
          handle := some { h with cfg := w }
          seq := .triggered
          sync := .clean
          dev := { s.dev with config := w.setWidth 15, busy := true, ptr := 0x01#8 }
          inputs := s.inputs.dropAnswer
          trace := s.trace ++ [.write h.addr [0x01#8, w.extractLsb' 8 8, w.extractLsb' 0 8] .ok] }) ∧
    (s.inputs.answer = .transportError →
      exec .readSample s =
        .next { s with
          handle := some { h with cfg := w }
          sync := .dirty
          err := .transportError
          dev := { s.dev with config := s.inputs.dropAnswer.config, busy := s.inputs.dropAnswer.dropConfig.bit }
          inputs := s.inputs.dropAnswer.dropConfig.dropBit
          trace := s.trace ++ [.write h.addr [0x01#8, w.extractLsb' 8 8, w.extractLsb' 0 8] .transportError] })

/-- R95, R100: the continuous path goes from Idle to Ready with no bus call, and Triggered goes to Polling with `n = 0`. -/
def Obligations.ReadSampleSilentTransitions : Prop :=
  ∀ (s : State) (h : Handle), s.handle = some h →
    (s.seq = .idle → h.cfg.getLsbD 8 = false → exec .readSample s = .next { s with seq := .ready }) ∧
    (s.seq = .triggered → exec .readSample s = .next { s with seq := .polling, polls := 0 })

/-- R92, R93, R94, R99, R100 (Polling) with log 6 for `ptr`: at the bound PollTimeout; else one Refresh, and bit 15 alone decides between Polling and
Ready; a failed Refresh ends the operation. -/
def Obligations.PollRefreshesThenTestsStatus : Prop :=
  ∀ (s : State) (h : Handle), s.handle = some h → s.seq = .polling →
    let ready := if s.dev.config.getLsbD 8 then !s.dev.busy else s.inputs.dropAnswer.bit
    let v : Word := (if ready then 0x8000#16 else 0#16) ||| s.dev.config.setWidth 16
    (s.maxPoll = some s.polls → exec .readSample s = .next { s with err := .pollTimeout, seq := .idle }) ∧
    (s.maxPoll ≠ some s.polls → s.inputs.answer = .ok →
      exec .readSample s =
        .next { s with
          handle := some { h with cfg := v }
          seq := if ready then .ready else .polling
          polls := s.polls + 1
          sync := .clean
          dev := { s.dev with ptr := 0x01#8 }
          inputs := if s.dev.config.getLsbD 8 then s.inputs.dropAnswer else s.inputs.dropAnswer.dropBit
          trace := s.trace ++ [.read h.addr [0x01#8] (some (v.extractLsb' 8 8, v.extractLsb' 0 8))] }) ∧
    (s.maxPoll ≠ some s.polls → s.inputs.answer = .transportError →
      exec .readSample s =
        .next { s with
          err := .transportError
          seq := .idle
          inputs := s.inputs.dropAnswer
          trace := s.trace ++ [.read h.addr [0x01#8] none] })

/-- R96, R99, R100 (Ready) with log 6 for `ptr`: the one conversion-register read, done and failed. -/
def Obligations.ReadyReadsConversion : Prop :=
  ∀ (s : State) (h : Handle), s.handle = some h → s.seq = .ready →
    (s.inputs.answer = .ok →
      exec .readSample s =
        .next { s with
          seq := .idle
          err := .ok
          sample := some s.dev.conv
          dev := { s.dev with ptr := 0x00#8 }
          inputs := s.inputs.dropAnswer
          trace := s.trace ++ [.read h.addr [0x00#8] (some (s.dev.conv.extractLsb' 8 8, s.dev.conv.extractLsb' 0 8))] }) ∧
    (s.inputs.answer = .transportError →
      exec .readSample s =
        .next { s with
          err := .transportError
          seq := .idle
          inputs := s.inputs.dropAnswer
          trace := s.trace ++ [.read h.addr [0x00#8] none] })

/-- R88, R90, R93, R97, R101: the whole single-shot ReadSample, for every result and every order of turns in which the device completes:
ConvDone falls after the `before` turns, of which the first starts the polling and each other one is a busy poll. A turn of an agent
that is not enabled is the block's (log 3); a step is one transition (log 8); `ptr` is log 6. The bus sees one write with bit 15 set,
a read for every busy poll, one read that returns ready, one conversion read. -/
def Obligations.SingleShotReadSampleRun : Prop :=
  ∀ (a : Agent) (before after : List Agent) (result : Word) (s : State) (h : Handle) (rest : List (BitVec 20))
    (events : List Event) (answers : List Answer) (words : List Word),
    s.handle = some h → s.seq = .idle → h.cfg.getLsbD 8 = true →
    (a = .convDone → s.dev.busy = false) → (a = .contUpdate → s.dev.config.getLsbD 8 = true) →
    .convDone ∉ before → after.length = (if before = [] then 3 else 2) → (∀ m, s.maxPoll = some m → before.length - 1 < m) →
    s.bench = [] → s.port = 0x70000#20 :: rest →
    s.inputs.events = (a :: before ++ .convDone :: after).map .turn ++ events →
    s.inputs.answers = List.replicate (before.length - 1 + 3) .ok ++ answers → s.inputs.words = result :: words →
    let start := h.cfg ||| 0x8000#16
    let busy := h.cfg &&& 0x7FFF#16
    ∃ t : State, Sys2Proof.core.run (before.length + after.length + 2) s = .next t ∧
      t.sample = some result ∧ t.handle = some { h with cfg := start } ∧ t.seq = .idle ∧ t.sync = .clean ∧ t.err = .ok ∧
      t.dev = { s.dev with config := h.cfg.setWidth 15, busy := false, conv := result, ptr := 0x00#8 } ∧
      t.port = rest ∧ t.volts = s.volts ∧
      t.trace =
        s.trace ++ [.write h.addr [0x01#8, start.extractLsb' 8 8, start.extractLsb' 0 8] .ok] ++
          List.replicate (before.length - 1)
            (.read h.addr [0x01#8] (some (busy.extractLsb' 8 8, busy.extractLsb' 0 8))) ++
          [.read h.addr [0x01#8] (some (start.extractLsb' 8 8, start.extractLsb' 0 8)),
            .read h.addr [0x00#8] (some (result.extractLsb' 8 8, result.extractLsb' 0 8))]

/-- R95, R97, R101: the whole continuous ReadSample, Idle, Ready, Idle, with any device steps between: one conversion read and nothing
else on the bus, and it returns what the device holds at that moment. The turns `a` and `b` are the block's (log 3); a step is one
transition (log 8); `ptr` is log 6. -/
def Obligations.ContinuousReadSampleRun : Prop :=
  ∀ (a b : Agent) (between : List Agent) (s u : State) (h : Handle) (rest : List (BitVec 20)) (events : List Event)
    (answers : List Answer),
    s.handle = some h → s.seq = .idle → h.cfg.getLsbD 8 = false → s.bench = [] → s.port = 0x70000#20 :: rest →
    (a = .convDone → s.dev.busy = false) → (a = .contUpdate → s.dev.config.getLsbD 8 = true) →
    deviceTurns between { s with seq := .ready, port := rest, inputs := s.inputs.dropEvent } = some u →
    (b = .convDone → u.dev.busy = false) → (b = .contUpdate → u.dev.config.getLsbD 8 = true) →
    s.inputs.events = (a :: between ++ [b]).map .turn ++ events → s.inputs.answers = .ok :: answers →
    ∃ r t : State, Sys2Proof.core.run 1 s = .next r ∧ r.seq = .ready ∧ Sys2Proof.core.run (between.length + 2) s = .next t ∧
      t.sample = some u.dev.conv ∧ t.handle = some h ∧ t.sync = s.sync ∧ t.seq = .idle ∧ t.err = .ok ∧
      t.dev = { u.dev with ptr := 0x00#8 } ∧ t.dev.config = s.dev.config ∧ t.port = rest ∧
      t.trace =
        s.trace ++ [.read h.addr [0x00#8] (some (u.dev.conv.extractLsb' 8 8, u.dev.conv.extractLsb' 0 8))]

/-- 60_exceptions.md R129: with no bound and a device that never completes, a ReadSample polls for ever: after any number of
steps it is still polling, and no error is reported. -/
def Obligations.UnboundedPollNeverEnds : Prop :=
  ∀ (n : Nat) (s : State) (h : Handle) (events : List Event) (answers : List Answer),
    s.handle = some h → s.seq = .polling → s.maxPoll = none → s.dev.config.getLsbD 8 = true → s.dev.busy = true →
    s.inputs.events = List.replicate n (.turn .block) ++ events → s.inputs.answers = List.replicate n .ok ++ answers →
    ∃ t : State, Sys2Proof.core.run n s = .next t ∧ t.seq = .polling ∧ t.polls = s.polls + n ∧ t.err = s.err ∧ t.dev.busy = true

/-- 42_conversion_sequencer.md R94, R105: with `MAX_POLL = m` every turn of the block brings a ReadSample nearer its end and makes at
most one bus call, whatever the transport and the device answer, and a device step delays nothing. -/
def Obligations.BoundedReadSampleProgresses : Prop :=
  ∀ (m : Nat) (s : State), s.maxPoll = some m → (s.seq = .polling → s.polls ≤ m) → s.seq ≠ .idle →
    (∃ t, exec .readSample s = .next t ∧ sampleRank m t < sampleRank m s ∧ t.maxPoll = some m ∧
      (t.seq = .polling → t.polls ≤ m) ∧ t.trace.length ≤ s.trace.length + 1) ∧
    sampleRank m s.convDone = sampleRank m s ∧ sampleRank m s.contUpdate = sampleRank m s ∧
    s.convDone.trace = s.trace ∧ s.contUpdate.trace = s.trace

/-- R102, R103: the two device steps, each when it is enabled. -/
def Obligations.DeviceStepsDrawConversion : Prop :=
  ∀ s : State,
    (s.inputs.event = .turn .convDone → s.dev.busy = true →
      step s =
        .next { s with
          dev := { s.dev with conv := s.inputs.dropEvent.word, busy := false }
          inputs := s.inputs.dropEvent.dropWord }) ∧
    (s.inputs.event = .turn .contUpdate → s.dev.config.getLsbD 8 = false →
      step s =
        .next { s with
          dev := { s.dev with conv := s.inputs.dropEvent.word }
          inputs := s.inputs.dropEvent.dropWord })

/-- R104: in single-shot mode with no conversion in progress the device has no step: whichever agent is named, the step is the
block's, and an idle block with nothing presented leaves everything but the scheduler's own inputs. -/
def Obligations.SleepingDeviceHasNoStep : Prop :=
  ∀ (s : State) (a : Agent), s.dev.config.getLsbD 8 = true → s.dev.busy = false → s.inputs.event = .turn a →
    turn s = blockTurn { s with inputs := s.inputs.dropEvent } ∧
    (s.seq = .idle → s.bench = [] → s.port = [] → step s = .next { s with inputs := s.inputs.dropEvent })

/-- 30_encoding.md R58 with log 12: the start value on its own is the trigger Commit, without a handle, done and failed. A written status
word with bit 15 = 0 is no start: its turn changes nothing (log 17). -/
def Obligations.StatusStartTriggersConversion : Prop :=
  ∀ (s : State) (h : Handle),
    let w := h.cfg ||| 0x8000#16
    (∀ (v : Word) (rest : List Item), s.seq = .idle → s.inputs.event = .turn .block → s.bench = .statusWritten v :: rest →
      v.getLsbD 15 = false → step s = .next { s with bench := rest, inputs := s.inputs.dropEvent }) ∧
    (s.handle = none → exec .statusStart s = .next { s with err := .noHandle, seq := .idle }) ∧
    (s.handle = some h → s.inputs.answer = .ok →
      exec .statusStart s =
        .next { s with
          handle := some { h with cfg := w }
          sync := .clean
          err := .ok
          dev := { s.dev with config := w.setWidth 15, busy := true, ptr := 0x01#8 }
          inputs := s.inputs.dropAnswer
          trace := s.trace ++ [.write h.addr [0x01#8, w.extractLsb' 8 8, w.extractLsb' 0 8] .ok] }) ∧
    (s.handle = some h → s.inputs.answer = .transportError →
      exec .statusStart s =
        .next { s with
          handle := some { h with cfg := w }
          sync := .dirty
          err := .transportError
          seq := .idle
          dev := { s.dev with config := s.inputs.dropAnswer.config, busy := s.inputs.dropAnswer.dropConfig.bit }
          inputs := s.inputs.dropAnswer.dropConfig.dropBit
          trace := s.trace ++ [.write h.addr [0x01#8, w.extractLsb' 8 8, w.extractLsb' 0 8] .transportError] })

/-- R58, R92 with log 13: the two read values steer a poll in progress and nothing else. -/
def Obligations.StatusReadValuesSteerPoll : Prop :=
  ∀ s : State,
    exec .statusBusy s = .next s ∧
    (s.seq = .polling → exec .statusReady s = .next { s with seq := .ready }) ∧
    (s.seq ≠ .polling → exec .statusReady s = .next s)

/-! ### Voltage scaling -/

/-- 43_voltage_scaling.md R106, R108, R109, R110, R111: ToVolts with each of the six gains: the exact value, and the rendering in the
format `FLOAT` of the same sign, range and magnitude. -/
def Obligations.ToVoltsExactValue : Prop :=
  ∀ g ∈ [(0x0000#16, 6144, (1875000 : Int)), (0x0200#16, 4096, 1250000), (0x0400#16, 2048, 625000), (0x0600#16, 1024, 312500),
      (0x0800#16, 512, 156250), (0x0A00#16, 256, 78125)],
    ∀ (raw : Word) (s : State) (h : Handle), s.handle = some h → h.cfg &&& 0x0E00#16 = g.1 →
      exec (.toVolts raw) s =
        .next { s with
          volts :=
            some
              { exact := raw.toInt * g.2.2
                float := floatVolts s.float (decide (raw.toInt < 0)) g.2.1 raw.toInt.natAbs }
          err := .ok }

/-- R112: the two reserved gain codes fault with ReservedGain and write nothing but `ERR`. -/
def Obligations.ToVoltsReservedGain : Prop :=
  ∀ (raw : Word) (s : State) (h : Handle), s.handle = some h →
    (h.cfg &&& 0x0E00#16 = 0x0C00#16 ∨ h.cfg &&& 0x0E00#16 = 0x0E00#16) →
    exec (.toVolts raw) s = .next { s with err := .reservedGain, seq := .idle }

/-- R113: ToVolts depends on the mirror through bits 11..9 alone. -/
def Obligations.ToVoltsReadsGainOnly : Prop :=
  ∀ (raw : Word) (s s' t t' : State) (h h' : Handle), s.handle = some h → s'.handle = some h' →
    h.cfg &&& 0x0E00#16 = h'.cfg &&& 0x0E00#16 → s.float = s'.float → s.volts = s'.volts →
    exec (.toVolts raw) s = .next t → exec (.toVolts raw) s' = .next t' → t.volts = t'.volts ∧ t.err = t'.err

/-- R107: sign and magnitude give the two's-complement value, for every raw sample; the magnitude is at most 32768. -/
def Obligations.SignMagnitudeIsTwosComplement : Prop :=
  ∀ raw : Word,
    (if isNegative raw then -(magnitude raw : Int) else (magnitude raw : Int)) = raw.toInt ∧ magnitude raw ≤ 32768 ∧
    (isNegative raw = true → 1 ≤ magnitude raw) ∧ (isNegative raw = false → magnitude raw ≤ 32767)

/-- R110: for each gain code, its full-scale range in millivolts and its step in units of 10^-10 V: the exact value is
`sext_16(raw) * FSR[g] / 32768` volts, which is `sext_16(raw)` steps, in the range of 37 signed bits that R110 gives. The two
reserved codes have no range. -/
def Obligations.ExactVoltsIsRationalFormula : Prop :=
  fullScale 6 = none ∧ fullScale 7 = none ∧
  ∀ p ∈ [(0, 6144, (1875000 : Int)), (1, 4096, 1250000), (2, 2048, 625000), (3, 1024, 312500), (4, 512, 156250),
      (5, 256, 78125)],
    fullScale p.1 = some p.2.1 ∧
    ∀ raw : Word,
      ((exactVolts (isNegative raw) p.2.1 (magnitude raw) : Int) : ℚ) / 10000000000 =
        (raw.toInt : ℚ) * ((p.2.1 : ℚ) / 1000) / 32768 ∧
      exactVolts (isNegative raw) p.2.1 (magnitude raw) = raw.toInt * p.2.2 ∧
      -61440000000 ≤ exactVolts (isNegative raw) p.2.1 (magnitude raw) ∧
      exactVolts (isNegative raw) p.2.1 (magnitude raw) ≤ 61438125000

/-- R115 (2), (3), (4): strictly monotone, odd, and bounded by the full scale, which only 0x8000 reaches. -/
def Obligations.ExactVoltsLaws : Prop :=
  ∀ (g fsr : Nat), fullScale g = some fsr →
    (∀ r r' : Word, r.toInt < r'.toInt →
      exactVolts (isNegative r) fsr (magnitude r) < exactVolts (isNegative r') fsr (magnitude r')) ∧
    (∀ r r' : Word, r'.toInt = -r.toInt →
      exactVolts (isNegative r') fsr (magnitude r') = -exactVolts (isNegative r) fsr (magnitude r)) ∧
    (∀ r : Word, -((fsr * 10000000 : Nat) : Int) ≤ exactVolts (isNegative r) fsr (magnitude r) ∧
      exactVolts (isNegative r) fsr (magnitude r) < ((fsr * 10000000 : Nat) : Int) ∧
      (exactVolts (isNegative r) fsr (magnitude r) = -((fsr * 10000000 : Nat) : Int) ↔ r = 0x8000#16))

/-- R111: the pattern that ToVolts stores, in binary32 and in the other rendering R111 names, is within one LSB of the exact value, for
every gain and every sample; in binary32 it is the value of the rendering computed step by step. -/
def Obligations.DefaultFloatWithinOneLsb : Prop :=
  ∀ (g fsr : Nat) (raw : Word), fullScale g = some fsr →
    (∀ f ∈ [FloatFormat.binary32, .binary64Then32],
      ∃ w : BitVec 32, floatVolts f (isNegative raw) fsr (magnitude raw) = .binary32 w ∧
        |binary32Value w - (raw.toInt : ℚ) * ((fsr : ℚ) / 1000) / 32768| ≤ (fsr : ℚ) / 1000 / 32768 ∧
        (f = .binary32 → binary32Value w = (render (ieeeOps 24) (isNegative raw) fsr (magnitude raw)).value)) ∧
    |(render (ieeeOps 24) (isNegative raw) fsr (magnitude raw)).value - (raw.toInt : ℚ) * ((fsr : ℚ) / 1000) / 32768| ≤
      (fsr : ℚ) / 1000 / 32768

/-! ### Whole-machine rules -/

/-- 60_exceptions.md R125: the error codes a setter and ToVolts can end with; R77, R113: they issue no bus call and leave the device. -/
def Obligations.PureOperationsNeverUseBus : Prop :=
  ∀ (v : Word) (i : Instr) (s t : State), i ∈ [Instr.setInputMux v, .setGain v, .setMode v, .setDataRate v, .toVolts v] →
    exec i s = .next t →
    t.trace = s.trace ∧ t.dev = s.dev ∧ t.sample = s.sample ∧ t.inputs = s.inputs ∧
      (t.err = .ok ∨ t.err = .noHandle ∨ t.err = if i = .toVolts v then .reservedGain else .invalidFieldValue)

/-- 20_memory.md R48: every step makes at most one bus call, and the history only grows. -/
def Obligations.OneBusCallPerStep : Prop :=
  ∀ s t : State, step s = .next t → t.trace = s.trace ∨ ∃ c, t.trace = s.trace ++ [c]

/-- 20_memory.md R35, R40: every call the machine makes is a 3-byte write of pointer 0x01 or a read of pointer 0x01 or 0x00. -/
def Obligations.EveryStepKeepsBusShapes : Prop :=
  ∀ s t : State, BusWellShaped s → step s = .next t → BusWellShaped t

/-- 41_register_io.md R85: the device's configuration changes at a register write and at no other time, but for its power-on. -/
def Obligations.DeviceConfigChangesOnlyByWrite : Prop :=
  ∀ s t : State, step s = .next t → t.dev.config ≠ s.dev.config →
    s.inputs.event = .deviceReset ∨ ∃ a bytes answer, t.trace = s.trace ++ [.write a bytes answer]

/-- 10_state.md R19: `SAMPLE` changes only when a ReadSample reads the conversion register with success, `VOLTS` only by a ToVolts that
succeeds; both lose their value at block reset. -/
def Obligations.ResultsWrittenOnlyByTheirOperation : Prop :=
  ∀ s t : State, step s = .next t →
    (t.sample ≠ s.sample →
      (s.seq = .ready ∧ t.seq = .idle ∧ t.err = .ok ∧ t.sample = some s.dev.conv) ∨ s.inputs.event = .blockReset) ∧
    (t.volts ≠ s.volts →
      (s.seq = .idle ∧ t.err = .ok ∧ t.volts.isSome = true ∧
        ∃ it raw, s.presented = some it ∧ decode it = .instr (.toVolts raw)) ∨
      s.inputs.event = .blockReset)

/-- 10_state.md R15, R16, 41_register_io.md R84 (3), (4): a handle is made, or bound to another address, only by an Initialize that
succeeds; it is lost only at block reset. -/
def Obligations.HandleMadeOnlyByInitialize : Prop :=
  ∀ s t : State, step s = .next t →
    (∀ h', t.handle = some h' → (∀ h, s.handle = some h → h'.addr ≠ h.addr) →
      s.seq = .idle ∧ t.err = .ok ∧
        ∃ it a, s.presented = some it ∧ decode it = .instr (.initialise a) ∧ h'.addr = a.setWidth 7) ∧
    (s.inited = true → t.inited = false → s.inputs.event = .blockReset)

/-- 10_state.md R18: no operation reads `SYNC`: two states that differ in it alone go to states that differ in it alone. -/
def Obligations.SyncSteersNothing : Prop :=
  ∀ (i : Instr) (s t : State) (x : Sync), exec i s = .next t →
    ∃ y, exec i { s with sync := x } = .next { t with sync := y }

/-- 42_conversion_sequencer.md R88, R92, R97: the sequencer stays sound. That there is no false ready rests on the spec's own decision that
a start command sets the busy bit in the same event (20_memory.md R42, 70_reset_and_hazards.md R154; log 20): it is that assumption,
carried through every step, and a device slower to show busy does not have it. -/
def Obligations.EveryStepKeepsSequencerSound : Prop :=
  ∀ s t : State, SequencerSound s → step s = .next t → SequencerSound t

/-- R94: the poll bound is kept by every step; 00_scope.md R9, R10: no step changes a parameter. -/
def Obligations.EveryStepKeepsPollBound : Prop :=
  ∀ s t : State, step s = .next t →
    (t.maxPoll = s.maxPoll ∧ t.float = s.float) ∧ (PollBounded s → PollBounded t)

/-- 10_state.md R18: as long as only the block writes the device, `SYNC` = Clean means that mirror and device agree, and every step keeps it so. -/
def Obligations.EveryStepKeepsSyncTruthful : Prop :=
  ∀ s t : State, OneWriter s → SyncTruthful s → step s = .next t → OneWriter t ∧ SyncTruthful t

/-! ### Reset -/

/-- 10_state.md R32: what the two resets leave where the spec gives a value; R17, R18, 60_exceptions.md R118: the codes of `SEQ`, `SYNC`
and `ERR`, of which 7 is never produced. -/
def Obligations.ResetLeavesSpecValues : Prop :=
  (State.reset.dev.config = 0x0583#15 ∧ State.reset.dev.busy = false ∧
    State.reset.deviceRead .config = 0x8583#16 ∧
    State.reset.inited = false ∧ State.reset.handle = none ∧ State.reset.seq = .idle ∧ State.reset.sync = .dirty ∧
    State.reset.err = .ok ∧ State.reset.sample = none ∧ State.reset.volts = none) ∧
  [Seq.idle, .triggered, .polling, .ready].map Seq.code = [0#2, 1#2, 2#2, 3#2] ∧
  [Sync.clean, .dirty].map Sync.code = [0#1, 1#1] ∧
  [Err.ok, .transportError, .invalidFieldValue, .pollTimeout, .reservedGain, .noHandle, .illegalCommand].map Err.code =
    [0#3, 1#3, 2#3, 3#3, 4#3, 5#3, 6#3] ∧
  ∀ e : Err, e.code ≠ 7#3

/-- The invariants hold at reset. -/
def Obligations.ResetMeetsInvariants : Prop :=
  SequencerSound State.reset ∧ PollBounded State.reset ∧ OneWriter State.reset ∧ SyncTruthful State.reset ∧
    BusWellShaped State.reset

/-- 70_reset_and_hazards.md R138, R139, R140: each reset, as a step, sets its own side and leaves the other; the registers that
R139 calls unspecified, and the poll counter (log 8), are not constrained. -/
def Obligations.ResetsAreIndependent : Prop :=
  ∀ s : State,
    (s.inputs.event = .blockReset →
      ∃ t, step s = .next t ∧ t.inited = false ∧
        t =
          { s with
            handle := none, seq := .idle, polls := t.polls, sync := .dirty, err := .ok, sample := none, volts := none
            inputs := s.inputs.dropEvent }) ∧
    (s.inputs.event = .deviceReset →
      ∃ t, step s = .next t ∧ t.dev.config = 0x0583#15 ∧ t.dev.busy = false ∧ t.deviceRead .config = 0x8583#16 ∧
        t = { s with dev := t.dev, inputs := t.inputs })
end

