-- ==== Sys2Proof/Laws/State.lean ====
section
/-! SUPPORT. What each update of State leaves in each field: one lemma per field per update. -/

namespace Sys2Proof.Machine


/-! ### setSync -/

@[simp] theorem State.setSync_handle (s : State) (x : Sync) : (s.setSync x).handle = s.handle := rfl
@[simp] theorem State.setSync_seq (s : State) (x : Sync) : (s.setSync x).seq = s.seq := rfl
@[simp] theorem State.setSync_polls (s : State) (x : Sync) : (s.setSync x).polls = s.polls := rfl
@[simp] theorem State.setSync_sync (s : State) (x : Sync) : (s.setSync x).sync = x := rfl
@[simp] theorem State.setSync_err (s : State) (x : Sync) : (s.setSync x).err = s.err := rfl
@[simp] theorem State.setSync_sample (s : State) (x : Sync) : (s.setSync x).sample = s.sample := rfl
@[simp] theorem State.setSync_volts (s : State) (x : Sync) : (s.setSync x).volts = s.volts := rfl
@[simp] theorem State.setSync_dev (s : State) (x : Sync) : (s.setSync x).dev = s.dev := rfl
@[simp] theorem State.setSync_maxPoll (s : State) (x : Sync) : (s.setSync x).maxPoll = s.maxPoll := rfl
@[simp] theorem State.setSync_float (s : State) (x : Sync) : (s.setSync x).float = s.float := rfl
@[simp] theorem State.setSync_port (s : State) (x : Sync) : (s.setSync x).port = s.port := rfl
@[simp] theorem State.setSync_bench (s : State) (x : Sync) : (s.setSync x).bench = s.bench := rfl
@[simp] theorem State.setSync_inputs (s : State) (x : Sync) : (s.setSync x).inputs = s.inputs := rfl
@[simp] theorem State.setSync_trace (s : State) (x : Sync) : (s.setSync x).trace = s.trace := rfl

/-! ### dropEvent -/

@[simp] theorem State.dropEvent_handle (s : State) : (s.dropEvent).handle = s.handle := rfl
@[simp] theorem State.dropEvent_seq (s : State) : (s.dropEvent).seq = s.seq := rfl
@[simp] theorem State.dropEvent_polls (s : State) : (s.dropEvent).polls = s.polls := rfl
@[simp] theorem State.dropEvent_sync (s : State) : (s.dropEvent).sync = s.sync := rfl
@[simp] theorem State.dropEvent_err (s : State) : (s.dropEvent).err = s.err := rfl
@[simp] theorem State.dropEvent_sample (s : State) : (s.dropEvent).sample = s.sample := rfl
@[simp] theorem State.dropEvent_volts (s : State) : (s.dropEvent).volts = s.volts := rfl
@[simp] theorem State.dropEvent_dev (s : State) : (s.dropEvent).dev = s.dev := rfl
@[simp] theorem State.dropEvent_maxPoll (s : State) : (s.dropEvent).maxPoll = s.maxPoll := rfl
@[simp] theorem State.dropEvent_float (s : State) : (s.dropEvent).float = s.float := rfl
@[simp] theorem State.dropEvent_port (s : State) : (s.dropEvent).port = s.port := rfl
@[simp] theorem State.dropEvent_bench (s : State) : (s.dropEvent).bench = s.bench := rfl
@[simp] theorem State.dropEvent_inputs (s : State) : (s.dropEvent).inputs = s.inputs.dropEvent := rfl
@[simp] theorem State.dropEvent_trace (s : State) : (s.dropEvent).trace = s.trace := rfl

/-! ### dropAnswer -/

@[simp] theorem State.dropAnswer_handle (s : State) : (s.dropAnswer).handle = s.handle := rfl
@[simp] theorem State.dropAnswer_seq (s : State) : (s.dropAnswer).seq = s.seq := rfl
@[simp] theorem State.dropAnswer_polls (s : State) : (s.dropAnswer).polls = s.polls := rfl
@[simp] theorem State.dropAnswer_sync (s : State) : (s.dropAnswer).sync = s.sync := rfl
@[simp] theorem State.dropAnswer_err (s : State) : (s.dropAnswer).err = s.err := rfl
@[simp] theorem State.dropAnswer_sample (s : State) : (s.dropAnswer).sample = s.sample := rfl
@[simp] theorem State.dropAnswer_volts (s : State) : (s.dropAnswer).volts = s.volts := rfl
@[simp] theorem State.dropAnswer_dev (s : State) : (s.dropAnswer).dev = s.dev := rfl
@[simp] theorem State.dropAnswer_maxPoll (s : State) : (s.dropAnswer).maxPoll = s.maxPoll := rfl
@[simp] theorem State.dropAnswer_float (s : State) : (s.dropAnswer).float = s.float := rfl
@[simp] theorem State.dropAnswer_port (s : State) : (s.dropAnswer).port = s.port := rfl
@[simp] theorem State.dropAnswer_bench (s : State) : (s.dropAnswer).bench = s.bench := rfl
@[simp] theorem State.dropAnswer_inputs (s : State) : (s.dropAnswer).inputs = s.inputs.dropAnswer := rfl
@[simp] theorem State.dropAnswer_trace (s : State) : (s.dropAnswer).trace = s.trace := rfl

/-! ### raise -/

@[simp] theorem State.raise_handle (s : State) (e : Err) : (s.raise e).handle = s.handle := rfl
@[simp] theorem State.raise_seq (s : State) (e : Err) : (s.raise e).seq = .idle := rfl
@[simp] theorem State.raise_polls (s : State) (e : Err) : (s.raise e).polls = s.polls := rfl
@[simp] theorem State.raise_sync (s : State) (e : Err) : (s.raise e).sync = s.sync := rfl
@[simp] theorem State.raise_err (s : State) (e : Err) : (s.raise e).err = e := rfl
@[simp] theorem State.raise_sample (s : State) (e : Err) : (s.raise e).sample = s.sample := rfl
@[simp] theorem State.raise_volts (s : State) (e : Err) : (s.raise e).volts = s.volts := rfl
@[simp] theorem State.raise_dev (s : State) (e : Err) : (s.raise e).dev = s.dev := rfl
@[simp] theorem State.raise_maxPoll (s : State) (e : Err) : (s.raise e).maxPoll = s.maxPoll := rfl
@[simp] theorem State.raise_float (s : State) (e : Err) : (s.raise e).float = s.float := rfl
@[simp] theorem State.raise_port (s : State) (e : Err) : (s.raise e).port = s.port := rfl
@[simp] theorem State.raise_bench (s : State) (e : Err) : (s.raise e).bench = s.bench := rfl
@[simp] theorem State.raise_inputs (s : State) (e : Err) : (s.raise e).inputs = s.inputs := rfl
@[simp] theorem State.raise_trace (s : State) (e : Err) : (s.raise e).trace = s.trace := rfl

/-! ### respond -/

@[simp] theorem State.respond_handle (s : State) : (s.respond).handle = s.handle := rfl
@[simp] theorem State.respond_seq (s : State) : (s.respond).seq = s.seq := rfl
@[simp] theorem State.respond_polls (s : State) : (s.respond).polls = s.polls := rfl
@[simp] theorem State.respond_sync (s : State) : (s.respond).sync = s.sync := rfl
@[simp] theorem State.respond_err (s : State) : (s.respond).err = .ok := rfl
@[simp] theorem State.respond_sample (s : State) : (s.respond).sample = s.sample := rfl
@[simp] theorem State.respond_volts (s : State) : (s.respond).volts = s.volts := rfl
@[simp] theorem State.respond_dev (s : State) : (s.respond).dev = s.dev := rfl
@[simp] theorem State.respond_maxPoll (s : State) : (s.respond).maxPoll = s.maxPoll := rfl
@[simp] theorem State.respond_float (s : State) : (s.respond).float = s.float := rfl
@[simp] theorem State.respond_port (s : State) : (s.respond).port = s.port := rfl
@[simp] theorem State.respond_bench (s : State) : (s.respond).bench = s.bench := rfl
@[simp] theorem State.respond_inputs (s : State) : (s.respond).inputs = s.inputs := rfl
@[simp] theorem State.respond_trace (s : State) : (s.respond).trace = s.trace := rfl

/-! ### setCfg -/

@[simp] theorem State.setCfg_handle (s : State) (h : Handle) (v : Word) : (s.setCfg h v).handle = some { h with cfg := v } := rfl
@[simp] theorem State.setCfg_seq (s : State) (h : Handle) (v : Word) : (s.setCfg h v).seq = s.seq := rfl
@[simp] theorem State.setCfg_polls (s : State) (h : Handle) (v : Word) : (s.setCfg h v).polls = s.polls := rfl
@[simp] theorem State.setCfg_sync (s : State) (h : Handle) (v : Word) : (s.setCfg h v).sync = s.sync := rfl
@[simp] theorem State.setCfg_err (s : State) (h : Handle) (v : Word) : (s.setCfg h v).err = s.err := rfl
@[simp] theorem State.setCfg_sample (s : State) (h : Handle) (v : Word) : (s.setCfg h v).sample = s.sample := rfl
@[simp] theorem State.setCfg_volts (s : State) (h : Handle) (v : Word) : (s.setCfg h v).volts = s.volts := rfl
@[simp] theorem State.setCfg_dev (s : State) (h : Handle) (v : Word) : (s.setCfg h v).dev = s.dev := rfl
@[simp] theorem State.setCfg_maxPoll (s : State) (h : Handle) (v : Word) : (s.setCfg h v).maxPoll = s.maxPoll := rfl
@[simp] theorem State.setCfg_float (s : State) (h : Handle) (v : Word) : (s.setCfg h v).float = s.float := rfl
@[simp] theorem State.setCfg_port (s : State) (h : Handle) (v : Word) : (s.setCfg h v).port = s.port := rfl
@[simp] theorem State.setCfg_bench (s : State) (h : Handle) (v : Word) : (s.setCfg h v).bench = s.bench := rfl
@[simp] theorem State.setCfg_inputs (s : State) (h : Handle) (v : Word) : (s.setCfg h v).inputs = s.inputs := rfl
@[simp] theorem State.setCfg_trace (s : State) (h : Handle) (v : Word) : (s.setCfg h v).trace = s.trace := rfl

/-! ### logged -/

@[simp] theorem State.logged_handle (s : State) (c : BusCall) : (s.logged c).handle = s.handle := rfl
@[simp] theorem State.logged_seq (s : State) (c : BusCall) : (s.logged c).seq = s.seq := rfl
@[simp] theorem State.logged_polls (s : State) (c : BusCall) : (s.logged c).polls = s.polls := rfl
@[simp] theorem State.logged_sync (s : State) (c : BusCall) : (s.logged c).sync = s.sync := rfl
@[simp] theorem State.logged_err (s : State) (c : BusCall) : (s.logged c).err = s.err := rfl
@[simp] theorem State.logged_sample (s : State) (c : BusCall) : (s.logged c).sample = s.sample := rfl
@[simp] theorem State.logged_volts (s : State) (c : BusCall) : (s.logged c).volts = s.volts := rfl
@[simp] theorem State.logged_dev (s : State) (c : BusCall) : (s.logged c).dev = s.dev := rfl
@[simp] theorem State.logged_maxPoll (s : State) (c : BusCall) : (s.logged c).maxPoll = s.maxPoll := rfl
@[simp] theorem State.logged_float (s : State) (c : BusCall) : (s.logged c).float = s.float := rfl
@[simp] theorem State.logged_port (s : State) (c : BusCall) : (s.logged c).port = s.port := rfl
@[simp] theorem State.logged_bench (s : State) (c : BusCall) : (s.logged c).bench = s.bench := rfl
@[simp] theorem State.logged_inputs (s : State) (c : BusCall) : (s.logged c).inputs = s.inputs := rfl
@[simp] theorem State.logged_trace (s : State) (c : BusCall) : (s.logged c).trace = s.trace ++ [c] := rfl

/-! ### selectPointer -/

@[simp] theorem State.selectPointer_handle (s : State) (p : Byte) : (s.selectPointer p).handle = s.handle := rfl
@[simp] theorem State.selectPointer_seq (s : State) (p : Byte) : (s.selectPointer p).seq = s.seq := rfl
@[simp] theorem State.selectPointer_polls (s : State) (p : Byte) : (s.selectPointer p).polls = s.polls := rfl
@[simp] theorem State.selectPointer_sync (s : State) (p : Byte) : (s.selectPointer p).sync = s.sync := rfl
@[simp] theorem State.selectPointer_err (s : State) (p : Byte) : (s.selectPointer p).err = s.err := rfl
@[simp] theorem State.selectPointer_sample (s : State) (p : Byte) : (s.selectPointer p).sample = s.sample := rfl
@[simp] theorem State.selectPointer_volts (s : State) (p : Byte) : (s.selectPointer p).volts = s.volts := rfl
@[simp] theorem State.selectPointer_dev (s : State) (p : Byte) : (s.selectPointer p).dev = { s.dev with ptr := p } := rfl
@[simp] theorem State.selectPointer_maxPoll (s : State) (p : Byte) : (s.selectPointer p).maxPoll = s.maxPoll := rfl
@[simp] theorem State.selectPointer_float (s : State) (p : Byte) : (s.selectPointer p).float = s.float := rfl
@[simp] theorem State.selectPointer_port (s : State) (p : Byte) : (s.selectPointer p).port = s.port := rfl
@[simp] theorem State.selectPointer_bench (s : State) (p : Byte) : (s.selectPointer p).bench = s.bench := rfl
@[simp] theorem State.selectPointer_inputs (s : State) (p : Byte) : (s.selectPointer p).inputs = s.inputs := rfl
@[simp] theorem State.selectPointer_trace (s : State) (p : Byte) : (s.selectPointer p).trace = s.trace := rfl

/-! ### deviceWrite -/

@[simp] theorem State.deviceWrite_handle (s : State) (w : Word) : (s.deviceWrite w).handle = s.handle := rfl
@[simp] theorem State.deviceWrite_seq (s : State) (w : Word) : (s.deviceWrite w).seq = s.seq := rfl
@[simp] theorem State.deviceWrite_polls (s : State) (w : Word) : (s.deviceWrite w).polls = s.polls := rfl
@[simp] theorem State.deviceWrite_sync (s : State) (w : Word) : (s.deviceWrite w).sync = s.sync := rfl
@[simp] theorem State.deviceWrite_err (s : State) (w : Word) : (s.deviceWrite w).err = s.err := rfl
@[simp] theorem State.deviceWrite_sample (s : State) (w : Word) : (s.deviceWrite w).sample = s.sample := rfl
@[simp] theorem State.deviceWrite_volts (s : State) (w : Word) : (s.deviceWrite w).volts = s.volts := rfl
@[simp] theorem State.deviceWrite_maxPoll (s : State) (w : Word) : (s.deviceWrite w).maxPoll = s.maxPoll := rfl
@[simp] theorem State.deviceWrite_float (s : State) (w : Word) : (s.deviceWrite w).float = s.float := rfl
@[simp] theorem State.deviceWrite_port (s : State) (w : Word) : (s.deviceWrite w).port = s.port := rfl
@[simp] theorem State.deviceWrite_bench (s : State) (w : Word) : (s.deviceWrite w).bench = s.bench := rfl
@[simp] theorem State.deviceWrite_trace (s : State) (w : Word) : (s.deviceWrite w).trace = s.trace := rfl

/-! ### deviceAfterFailedWrite -/

@[simp] theorem State.deviceAfterFailedWrite_handle (s : State) : (s.deviceAfterFailedWrite).handle = s.handle := rfl
@[simp] theorem State.deviceAfterFailedWrite_seq (s : State) : (s.deviceAfterFailedWrite).seq = s.seq := rfl
@[simp] theorem State.deviceAfterFailedWrite_polls (s : State) : (s.deviceAfterFailedWrite).polls = s.polls := rfl
@[simp] theorem State.deviceAfterFailedWrite_sync (s : State) : (s.deviceAfterFailedWrite).sync = s.sync := rfl
@[simp] theorem State.deviceAfterFailedWrite_err (s : State) : (s.deviceAfterFailedWrite).err = s.err := rfl
@[simp] theorem State.deviceAfterFailedWrite_sample (s : State) : (s.deviceAfterFailedWrite).sample = s.sample := rfl
@[simp] theorem State.deviceAfterFailedWrite_volts (s : State) : (s.deviceAfterFailedWrite).volts = s.volts := rfl
@[simp] theorem State.deviceAfterFailedWrite_dev (s : State) : (s.deviceAfterFailedWrite).dev = { s.dev with config := s.inputs.config, busy := s.inputs.dropConfig.bit } := rfl
@[simp] theorem State.deviceAfterFailedWrite_maxPoll (s : State) : (s.deviceAfterFailedWrite).maxPoll = s.maxPoll := rfl
@[simp] theorem State.deviceAfterFailedWrite_float (s : State) : (s.deviceAfterFailedWrite).float = s.float := rfl
@[simp] theorem State.deviceAfterFailedWrite_port (s : State) : (s.deviceAfterFailedWrite).port = s.port := rfl
@[simp] theorem State.deviceAfterFailedWrite_bench (s : State) : (s.deviceAfterFailedWrite).bench = s.bench := rfl
@[simp] theorem State.deviceAfterFailedWrite_inputs (s : State) : (s.deviceAfterFailedWrite).inputs = s.inputs.dropConfig.dropBit := rfl
@[simp] theorem State.deviceAfterFailedWrite_trace (s : State) : (s.deviceAfterFailedWrite).trace = s.trace := rfl

/-! ### convDone -/

@[simp] theorem State.convDone_handle (s : State) : (s.convDone).handle = s.handle := rfl
@[simp] theorem State.convDone_seq (s : State) : (s.convDone).seq = s.seq := rfl
@[simp] theorem State.convDone_polls (s : State) : (s.convDone).polls = s.polls := rfl
@[simp] theorem State.convDone_sync (s : State) : (s.convDone).sync = s.sync := rfl
@[simp] theorem State.convDone_err (s : State) : (s.convDone).err = s.err := rfl
@[simp] theorem State.convDone_sample (s : State) : (s.convDone).sample = s.sample := rfl
@[simp] theorem State.convDone_volts (s : State) : (s.convDone).volts = s.volts := rfl
@[simp] theorem State.convDone_dev (s : State) : (s.convDone).dev = { s.dev with conv := s.inputs.word, busy := false } := rfl
@[simp] theorem State.convDone_maxPoll (s : State) : (s.convDone).maxPoll = s.maxPoll := rfl
@[simp] theorem State.convDone_float (s : State) : (s.convDone).float = s.float := rfl
@[simp] theorem State.convDone_port (s : State) : (s.convDone).port = s.port := rfl
@[simp] theorem State.convDone_bench (s : State) : (s.convDone).bench = s.bench := rfl
@[simp] theorem State.convDone_inputs (s : State) : (s.convDone).inputs = s.inputs.dropWord := rfl
@[simp] theorem State.convDone_trace (s : State) : (s.convDone).trace = s.trace := rfl

/-! ### contUpdate -/

@[simp] theorem State.contUpdate_handle (s : State) : (s.contUpdate).handle = s.handle := rfl
@[simp] theorem State.contUpdate_seq (s : State) : (s.contUpdate).seq = s.seq := rfl
@[simp] theorem State.contUpdate_polls (s : State) : (s.contUpdate).polls = s.polls := rfl
@[simp] theorem State.contUpdate_sync (s : State) : (s.contUpdate).sync = s.sync := rfl
@[simp] theorem State.contUpdate_err (s : State) : (s.contUpdate).err = s.err := rfl
@[simp] theorem State.contUpdate_sample (s : State) : (s.contUpdate).sample = s.sample := rfl
@[simp] theorem State.contUpdate_volts (s : State) : (s.contUpdate).volts = s.volts := rfl
@[simp] theorem State.contUpdate_dev (s : State) : (s.contUpdate).dev = { s.dev with conv := s.inputs.word } := rfl
@[simp] theorem State.contUpdate_maxPoll (s : State) : (s.contUpdate).maxPoll = s.maxPoll := rfl
@[simp] theorem State.contUpdate_float (s : State) : (s.contUpdate).float = s.float := rfl
@[simp] theorem State.contUpdate_port (s : State) : (s.contUpdate).port = s.port := rfl
@[simp] theorem State.contUpdate_bench (s : State) : (s.contUpdate).bench = s.bench := rfl
@[simp] theorem State.contUpdate_inputs (s : State) : (s.contUpdate).inputs = s.inputs.dropWord := rfl
@[simp] theorem State.contUpdate_trace (s : State) : (s.contUpdate).trace = s.trace := rfl

/-! ### deviceReset -/

@[simp] theorem State.deviceReset_handle (s : State) : (s.deviceReset).handle = s.handle := rfl
@[simp] theorem State.deviceReset_seq (s : State) : (s.deviceReset).seq = s.seq := rfl
@[simp] theorem State.deviceReset_polls (s : State) : (s.deviceReset).polls = s.polls := rfl
@[simp] theorem State.deviceReset_sync (s : State) : (s.deviceReset).sync = s.sync := rfl
@[simp] theorem State.deviceReset_err (s : State) : (s.deviceReset).err = s.err := rfl
@[simp] theorem State.deviceReset_sample (s : State) : (s.deviceReset).sample = s.sample := rfl
@[simp] theorem State.deviceReset_volts (s : State) : (s.deviceReset).volts = s.volts := rfl
@[simp] theorem State.deviceReset_maxPoll (s : State) : (s.deviceReset).maxPoll = s.maxPoll := rfl
@[simp] theorem State.deviceReset_float (s : State) : (s.deviceReset).float = s.float := rfl
@[simp] theorem State.deviceReset_port (s : State) : (s.deviceReset).port = s.port := rfl
@[simp] theorem State.deviceReset_bench (s : State) : (s.deviceReset).bench = s.bench := rfl
@[simp] theorem State.deviceReset_inputs (s : State) : (s.deviceReset).inputs = s.inputs.dropWord.dropWord.dropWord.dropWord := rfl
@[simp] theorem State.deviceReset_trace (s : State) : (s.deviceReset).trace = s.trace := rfl

/-! ### blockReset -/

@[simp] theorem State.blockReset_handle (s : State) : (s.blockReset).handle = none := rfl
@[simp] theorem State.blockReset_seq (s : State) : (s.blockReset).seq = .idle := rfl
@[simp] theorem State.blockReset_polls (s : State) : (s.blockReset).polls = 0 := rfl
@[simp] theorem State.blockReset_sync (s : State) : (s.blockReset).sync = .dirty := rfl
@[simp] theorem State.blockReset_err (s : State) : (s.blockReset).err = .ok := rfl
@[simp] theorem State.blockReset_sample (s : State) : (s.blockReset).sample = none := rfl
@[simp] theorem State.blockReset_volts (s : State) : (s.blockReset).volts = none := rfl
@[simp] theorem State.blockReset_dev (s : State) : (s.blockReset).dev = s.dev := rfl
@[simp] theorem State.blockReset_maxPoll (s : State) : (s.blockReset).maxPoll = s.maxPoll := rfl
@[simp] theorem State.blockReset_float (s : State) : (s.blockReset).float = s.float := rfl
@[simp] theorem State.blockReset_port (s : State) : (s.blockReset).port = s.port := rfl
@[simp] theorem State.blockReset_bench (s : State) : (s.blockReset).bench = s.bench := rfl
@[simp] theorem State.blockReset_inputs (s : State) : (s.blockReset).inputs = s.inputs := rfl
@[simp] theorem State.blockReset_trace (s : State) : (s.blockReset).trace = s.trace := rfl

/-! ### bind -/

@[simp] theorem State.bind_handle (s : State) (a : BusAddr) (v : Word) : (s.bind a v).handle = some { addr := a, cfg := v } := rfl
@[simp] theorem State.bind_seq (s : State) (a : BusAddr) (v : Word) : (s.bind a v).seq = s.seq := rfl
@[simp] theorem State.bind_polls (s : State) (a : BusAddr) (v : Word) : (s.bind a v).polls = s.polls := rfl
@[simp] theorem State.bind_sync (s : State) (a : BusAddr) (v : Word) : (s.bind a v).sync = s.sync := rfl
@[simp] theorem State.bind_err (s : State) (a : BusAddr) (v : Word) : (s.bind a v).err = s.err := rfl
@[simp] theorem State.bind_sample (s : State) (a : BusAddr) (v : Word) : (s.bind a v).sample = s.sample := rfl
@[simp] theorem State.bind_volts (s : State) (a : BusAddr) (v : Word) : (s.bind a v).volts = s.volts := rfl
@[simp] theorem State.bind_dev (s : State) (a : BusAddr) (v : Word) : (s.bind a v).dev = s.dev := rfl
@[simp] theorem State.bind_maxPoll (s : State) (a : BusAddr) (v : Word) : (s.bind a v).maxPoll = s.maxPoll := rfl
@[simp] theorem State.bind_float (s : State) (a : BusAddr) (v : Word) : (s.bind a v).float = s.float := rfl
@[simp] theorem State.bind_port (s : State) (a : BusAddr) (v : Word) : (s.bind a v).port = s.port := rfl
@[simp] theorem State.bind_bench (s : State) (a : BusAddr) (v : Word) : (s.bind a v).bench = s.bench := rfl
@[simp] theorem State.bind_inputs (s : State) (a : BusAddr) (v : Word) : (s.bind a v).inputs = s.inputs := rfl
@[simp] theorem State.bind_trace (s : State) (a : BusAddr) (v : Word) : (s.bind a v).trace = s.trace := rfl

/-! ### setSeq -/

@[simp] theorem State.setSeq_handle (s : State) (x : Seq) : (s.setSeq x).handle = s.handle := rfl
@[simp] theorem State.setSeq_seq (s : State) (x : Seq) : (s.setSeq x).seq = x := rfl
@[simp] theorem State.setSeq_polls (s : State) (x : Seq) : (s.setSeq x).polls = s.polls := rfl
@[simp] theorem State.setSeq_sync (s : State) (x : Seq) : (s.setSeq x).sync = s.sync := rfl
@[simp] theorem State.setSeq_err (s : State) (x : Seq) : (s.setSeq x).err = s.err := rfl
@[simp] theorem State.setSeq_sample (s : State) (x : Seq) : (s.setSeq x).sample = s.sample := rfl
@[simp] theorem State.setSeq_volts (s : State) (x : Seq) : (s.setSeq x).volts = s.volts := rfl
@[simp] theorem State.setSeq_dev (s : State) (x : Seq) : (s.setSeq x).dev = s.dev := rfl
@[simp] theorem State.setSeq_maxPoll (s : State) (x : Seq) : (s.setSeq x).maxPoll = s.maxPoll := rfl
@[simp] theorem State.setSeq_float (s : State) (x : Seq) : (s.setSeq x).float = s.float := rfl
@[simp] theorem State.setSeq_port (s : State) (x : Seq) : (s.setSeq x).port = s.port := rfl
@[simp] theorem State.setSeq_bench (s : State) (x : Seq) : (s.setSeq x).bench = s.bench := rfl
@[simp] theorem State.setSeq_inputs (s : State) (x : Seq) : (s.setSeq x).inputs = s.inputs := rfl
@[simp] theorem State.setSeq_trace (s : State) (x : Seq) : (s.setSeq x).trace = s.trace := rfl

/-! ### startPolling -/

@[simp] theorem State.startPolling_handle (s : State) : (s.startPolling).handle = s.handle := rfl
@[simp] theorem State.startPolling_seq (s : State) : (s.startPolling).seq = .polling := rfl
@[simp] theorem State.startPolling_polls (s : State) : (s.startPolling).polls = 0 := rfl
@[simp] theorem State.startPolling_sync (s : State) : (s.startPolling).sync = s.sync := rfl
@[simp] theorem State.startPolling_err (s : State) : (s.startPolling).err = s.err := rfl
@[simp] theorem State.startPolling_sample (s : State) : (s.startPolling).sample = s.sample := rfl
@[simp] theorem State.startPolling_volts (s : State) : (s.startPolling).volts = s.volts := rfl
@[simp] theorem State.startPolling_dev (s : State) : (s.startPolling).dev = s.dev := rfl
@[simp] theorem State.startPolling_maxPoll (s : State) : (s.startPolling).maxPoll = s.maxPoll := rfl
@[simp] theorem State.startPolling_float (s : State) : (s.startPolling).float = s.float := rfl
@[simp] theorem State.startPolling_port (s : State) : (s.startPolling).port = s.port := rfl
@[simp] theorem State.startPolling_bench (s : State) : (s.startPolling).bench = s.bench := rfl
@[simp] theorem State.startPolling_inputs (s : State) : (s.startPolling).inputs = s.inputs := rfl
@[simp] theorem State.startPolling_trace (s : State) : (s.startPolling).trace = s.trace := rfl

/-! ### pollTest -/

@[simp] theorem State.pollTest_handle (s : State) (b : Bool) : (s.pollTest b).handle = s.handle := rfl
@[simp] theorem State.pollTest_seq (s : State) (b : Bool) : (s.pollTest b).seq = if s.seq = .polling then (if b then .ready else .polling) else s.seq := rfl
@[simp] theorem State.pollTest_polls (s : State) (b : Bool) : (s.pollTest b).polls = s.polls := rfl
@[simp] theorem State.pollTest_sync (s : State) (b : Bool) : (s.pollTest b).sync = s.sync := rfl
@[simp] theorem State.pollTest_err (s : State) (b : Bool) : (s.pollTest b).err = s.err := rfl
@[simp] theorem State.pollTest_sample (s : State) (b : Bool) : (s.pollTest b).sample = s.sample := rfl
@[simp] theorem State.pollTest_volts (s : State) (b : Bool) : (s.pollTest b).volts = s.volts := rfl
@[simp] theorem State.pollTest_dev (s : State) (b : Bool) : (s.pollTest b).dev = s.dev := rfl
@[simp] theorem State.pollTest_maxPoll (s : State) (b : Bool) : (s.pollTest b).maxPoll = s.maxPoll := rfl
@[simp] theorem State.pollTest_float (s : State) (b : Bool) : (s.pollTest b).float = s.float := rfl
@[simp] theorem State.pollTest_port (s : State) (b : Bool) : (s.pollTest b).port = s.port := rfl
@[simp] theorem State.pollTest_bench (s : State) (b : Bool) : (s.pollTest b).bench = s.bench := rfl
@[simp] theorem State.pollTest_inputs (s : State) (b : Bool) : (s.pollTest b).inputs = s.inputs := rfl
@[simp] theorem State.pollTest_trace (s : State) (b : Bool) : (s.pollTest b).trace = s.trace := rfl

/-! ### countPoll -/

@[simp] theorem State.countPoll_handle (s : State) : (s.countPoll).handle = s.handle := rfl
@[simp] theorem State.countPoll_seq (s : State) : (s.countPoll).seq = s.seq := rfl
@[simp] theorem State.countPoll_polls (s : State) : (s.countPoll).polls = s.polls + 1 := rfl
@[simp] theorem State.countPoll_sync (s : State) : (s.countPoll).sync = s.sync := rfl
@[simp] theorem State.countPoll_err (s : State) : (s.countPoll).err = s.err := rfl
@[simp] theorem State.countPoll_sample (s : State) : (s.countPoll).sample = s.sample := rfl
@[simp] theorem State.countPoll_volts (s : State) : (s.countPoll).volts = s.volts := rfl
@[simp] theorem State.countPoll_dev (s : State) : (s.countPoll).dev = s.dev := rfl
@[simp] theorem State.countPoll_maxPoll (s : State) : (s.countPoll).maxPoll = s.maxPoll := rfl
@[simp] theorem State.countPoll_float (s : State) : (s.countPoll).float = s.float := rfl
@[simp] theorem State.countPoll_port (s : State) : (s.countPoll).port = s.port := rfl
@[simp] theorem State.countPoll_bench (s : State) : (s.countPoll).bench = s.bench := rfl
@[simp] theorem State.countPoll_inputs (s : State) : (s.countPoll).inputs = s.inputs := rfl
@[simp] theorem State.countPoll_trace (s : State) : (s.countPoll).trace = s.trace := rfl

/-! ### setSample -/

@[simp] theorem State.setSample_handle (s : State) (v : Word) : (s.setSample v).handle = s.handle := rfl
@[simp] theorem State.setSample_seq (s : State) (v : Word) : (s.setSample v).seq = s.seq := rfl
@[simp] theorem State.setSample_polls (s : State) (v : Word) : (s.setSample v).polls = s.polls := rfl
@[simp] theorem State.setSample_sync (s : State) (v : Word) : (s.setSample v).sync = s.sync := rfl
@[simp] theorem State.setSample_err (s : State) (v : Word) : (s.setSample v).err = s.err := rfl
@[simp] theorem State.setSample_sample (s : State) (v : Word) : (s.setSample v).sample = some v := rfl
@[simp] theorem State.setSample_volts (s : State) (v : Word) : (s.setSample v).volts = s.volts := rfl
@[simp] theorem State.setSample_dev (s : State) (v : Word) : (s.setSample v).dev = s.dev := rfl
@[simp] theorem State.setSample_maxPoll (s : State) (v : Word) : (s.setSample v).maxPoll = s.maxPoll := rfl
@[simp] theorem State.setSample_float (s : State) (v : Word) : (s.setSample v).float = s.float := rfl
@[simp] theorem State.setSample_port (s : State) (v : Word) : (s.setSample v).port = s.port := rfl
@[simp] theorem State.setSample_bench (s : State) (v : Word) : (s.setSample v).bench = s.bench := rfl
@[simp] theorem State.setSample_inputs (s : State) (v : Word) : (s.setSample v).inputs = s.inputs := rfl
@[simp] theorem State.setSample_trace (s : State) (v : Word) : (s.setSample v).trace = s.trace := rfl

/-! ### setVolts -/

@[simp] theorem State.setVolts_handle (s : State) (v : Volts) : (s.setVolts v).handle = s.handle := rfl
@[simp] theorem State.setVolts_seq (s : State) (v : Volts) : (s.setVolts v).seq = s.seq := rfl
@[simp] theorem State.setVolts_polls (s : State) (v : Volts) : (s.setVolts v).polls = s.polls := rfl
@[simp] theorem State.setVolts_sync (s : State) (v : Volts) : (s.setVolts v).sync = s.sync := rfl
@[simp] theorem State.setVolts_err (s : State) (v : Volts) : (s.setVolts v).err = s.err := rfl
@[simp] theorem State.setVolts_sample (s : State) (v : Volts) : (s.setVolts v).sample = s.sample := rfl
@[simp] theorem State.setVolts_volts (s : State) (v : Volts) : (s.setVolts v).volts = some v := rfl
@[simp] theorem State.setVolts_dev (s : State) (v : Volts) : (s.setVolts v).dev = s.dev := rfl
@[simp] theorem State.setVolts_maxPoll (s : State) (v : Volts) : (s.setVolts v).maxPoll = s.maxPoll := rfl
@[simp] theorem State.setVolts_float (s : State) (v : Volts) : (s.setVolts v).float = s.float := rfl
@[simp] theorem State.setVolts_port (s : State) (v : Volts) : (s.setVolts v).port = s.port := rfl
@[simp] theorem State.setVolts_bench (s : State) (v : Volts) : (s.setVolts v).bench = s.bench := rfl
@[simp] theorem State.setVolts_inputs (s : State) (v : Volts) : (s.setVolts v).inputs = s.inputs := rfl
@[simp] theorem State.setVolts_trace (s : State) (v : Volts) : (s.setVolts v).trace = s.trace := rfl

/-! ### taken -/

@[simp] theorem State.taken_handle (s : State) : s.taken.handle = s.handle := by unfold State.taken; split <;> rfl
@[simp] theorem State.taken_seq (s : State) : s.taken.seq = s.seq := by unfold State.taken; split <;> rfl
@[simp] theorem State.taken_polls (s : State) : s.taken.polls = s.polls := by unfold State.taken; split <;> rfl
@[simp] theorem State.taken_sync (s : State) : s.taken.sync = s.sync := by unfold State.taken; split <;> rfl
@[simp] theorem State.taken_err (s : State) : s.taken.err = s.err := by unfold State.taken; split <;> rfl
@[simp] theorem State.taken_sample (s : State) : s.taken.sample = s.sample := by unfold State.taken; split <;> rfl
@[simp] theorem State.taken_volts (s : State) : s.taken.volts = s.volts := by unfold State.taken; split <;> rfl
@[simp] theorem State.taken_dev (s : State) : s.taken.dev = s.dev := by unfold State.taken; split <;> rfl
@[simp] theorem State.taken_maxPoll (s : State) : s.taken.maxPoll = s.maxPoll := by unfold State.taken; split <;> rfl
@[simp] theorem State.taken_float (s : State) : s.taken.float = s.float := by unfold State.taken; split <;> rfl
@[simp] theorem State.taken_inputs (s : State) : s.taken.inputs = s.inputs := by unfold State.taken; split <;> rfl
@[simp] theorem State.taken_trace (s : State) : s.taken.trace = s.trace := by unfold State.taken; split <;> rfl
@[simp] theorem State.taken_bench (s : State) : s.taken.bench = s.bench.tail := by
  unfold State.taken; split <;> simp_all

/-! ### deviceWrite and deviceReset, the device itself -/

@[simp] theorem State.deviceWrite_config (s : State) (w : Word) : (s.deviceWrite w).dev.config = storedPart w := rfl
@[simp] theorem State.deviceWrite_conv (s : State) (w : Word) : (s.deviceWrite w).dev.conv = s.dev.conv := rfl
@[simp] theorem State.deviceWrite_lo (s : State) (w : Word) : (s.deviceWrite w).dev.lo = s.dev.lo := rfl
@[simp] theorem State.deviceWrite_hi (s : State) (w : Word) : (s.deviceWrite w).dev.hi = s.dev.hi := rfl
@[simp] theorem State.deviceWrite_ptr (s : State) (w : Word) : (s.deviceWrite w).dev.ptr = s.dev.ptr := rfl
@[simp] theorem State.deviceReset_config (s : State) : s.deviceReset.dev.config = 0x0583#15 := rfl
@[simp] theorem State.deviceReset_busy (s : State) : s.deviceReset.dev.busy = false := rfl

/-! ### afterRead -/

@[simp] theorem State.afterRead_handle (s : State) (r : Reg) : (s.afterRead r).handle = s.handle := by cases r <;> rfl
@[simp] theorem State.afterRead_seq (s : State) (r : Reg) : (s.afterRead r).seq = s.seq := by cases r <;> rfl
@[simp] theorem State.afterRead_polls (s : State) (r : Reg) : (s.afterRead r).polls = s.polls := by cases r <;> rfl
@[simp] theorem State.afterRead_sync (s : State) (r : Reg) : (s.afterRead r).sync = s.sync := by cases r <;> rfl
@[simp] theorem State.afterRead_err (s : State) (r : Reg) : (s.afterRead r).err = s.err := by cases r <;> rfl
@[simp] theorem State.afterRead_sample (s : State) (r : Reg) : (s.afterRead r).sample = s.sample := by cases r <;> rfl
@[simp] theorem State.afterRead_volts (s : State) (r : Reg) : (s.afterRead r).volts = s.volts := by cases r <;> rfl
@[simp] theorem State.afterRead_dev (s : State) (r : Reg) : (s.afterRead r).dev = s.dev := by cases r <;> rfl
@[simp] theorem State.afterRead_maxPoll (s : State) (r : Reg) : (s.afterRead r).maxPoll = s.maxPoll := by cases r <;> rfl
@[simp] theorem State.afterRead_float (s : State) (r : Reg) : (s.afterRead r).float = s.float := by cases r <;> rfl
@[simp] theorem State.afterRead_port (s : State) (r : Reg) : (s.afterRead r).port = s.port := by cases r <;> rfl
@[simp] theorem State.afterRead_bench (s : State) (r : Reg) : (s.afterRead r).bench = s.bench := by cases r <;> rfl
@[simp] theorem State.afterRead_trace (s : State) (r : Reg) : (s.afterRead r).trace = s.trace := by cases r <;> rfl

/-! ### writeDone -/

@[simp] theorem State.writeDone_handle (s : State) (a : BusAddr) (v : Word) : (s.writeDone a v).handle = s.handle := rfl
@[simp] theorem State.writeDone_seq (s : State) (a : BusAddr) (v : Word) : (s.writeDone a v).seq = s.seq := rfl
@[simp] theorem State.writeDone_polls (s : State) (a : BusAddr) (v : Word) : (s.writeDone a v).polls = s.polls := rfl
@[simp] theorem State.writeDone_sync (s : State) (a : BusAddr) (v : Word) : (s.writeDone a v).sync = s.sync := rfl
@[simp] theorem State.writeDone_err (s : State) (a : BusAddr) (v : Word) : (s.writeDone a v).err = s.err := rfl
@[simp] theorem State.writeDone_sample (s : State) (a : BusAddr) (v : Word) : (s.writeDone a v).sample = s.sample := rfl
@[simp] theorem State.writeDone_volts (s : State) (a : BusAddr) (v : Word) : (s.writeDone a v).volts = s.volts := rfl
@[simp] theorem State.writeDone_maxPoll (s : State) (a : BusAddr) (v : Word) : (s.writeDone a v).maxPoll = s.maxPoll := rfl
@[simp] theorem State.writeDone_float (s : State) (a : BusAddr) (v : Word) : (s.writeDone a v).float = s.float := rfl
@[simp] theorem State.writeDone_port (s : State) (a : BusAddr) (v : Word) : (s.writeDone a v).port = s.port := rfl
@[simp] theorem State.writeDone_bench (s : State) (a : BusAddr) (v : Word) : (s.writeDone a v).bench = s.bench := rfl
@[simp] theorem State.writeDone_trace (s : State) (a : BusAddr) (v : Word) : (s.writeDone a v).trace = s.trace ++ [.write a (writeFrame v) .ok] := rfl

/-! ### writeFailed -/

@[simp] theorem State.writeFailed_handle (s : State) (a : BusAddr) (v : Word) : (s.writeFailed a v).handle = s.handle := rfl
@[simp] theorem State.writeFailed_seq (s : State) (a : BusAddr) (v : Word) : (s.writeFailed a v).seq = s.seq := rfl
@[simp] theorem State.writeFailed_polls (s : State) (a : BusAddr) (v : Word) : (s.writeFailed a v).polls = s.polls := rfl
@[simp] theorem State.writeFailed_sync (s : State) (a : BusAddr) (v : Word) : (s.writeFailed a v).sync = s.sync := rfl
@[simp] theorem State.writeFailed_err (s : State) (a : BusAddr) (v : Word) : (s.writeFailed a v).err = s.err := rfl
@[simp] theorem State.writeFailed_sample (s : State) (a : BusAddr) (v : Word) : (s.writeFailed a v).sample = s.sample := rfl
@[simp] theorem State.writeFailed_volts (s : State) (a : BusAddr) (v : Word) : (s.writeFailed a v).volts = s.volts := rfl
@[simp] theorem State.writeFailed_maxPoll (s : State) (a : BusAddr) (v : Word) : (s.writeFailed a v).maxPoll = s.maxPoll := rfl
@[simp] theorem State.writeFailed_float (s : State) (a : BusAddr) (v : Word) : (s.writeFailed a v).float = s.float := rfl
@[simp] theorem State.writeFailed_port (s : State) (a : BusAddr) (v : Word) : (s.writeFailed a v).port = s.port := rfl
@[simp] theorem State.writeFailed_bench (s : State) (a : BusAddr) (v : Word) : (s.writeFailed a v).bench = s.bench := rfl
@[simp] theorem State.writeFailed_trace (s : State) (a : BusAddr) (v : Word) : (s.writeFailed a v).trace = s.trace ++ [.write a (writeFrame v) .transportError] := rfl

/-! ### readFailed -/

@[simp] theorem State.readFailed_handle (s : State) (a : BusAddr) (r : Reg) : (s.readFailed a r).handle = s.handle := rfl
@[simp] theorem State.readFailed_seq (s : State) (a : BusAddr) (r : Reg) : (s.readFailed a r).seq = s.seq := rfl
@[simp] theorem State.readFailed_polls (s : State) (a : BusAddr) (r : Reg) : (s.readFailed a r).polls = s.polls := rfl
@[simp] theorem State.readFailed_sync (s : State) (a : BusAddr) (r : Reg) : (s.readFailed a r).sync = s.sync := rfl
@[simp] theorem State.readFailed_err (s : State) (a : BusAddr) (r : Reg) : (s.readFailed a r).err = s.err := rfl
@[simp] theorem State.readFailed_sample (s : State) (a : BusAddr) (r : Reg) : (s.readFailed a r).sample = s.sample := rfl
@[simp] theorem State.readFailed_volts (s : State) (a : BusAddr) (r : Reg) : (s.readFailed a r).volts = s.volts := rfl
@[simp] theorem State.readFailed_dev (s : State) (a : BusAddr) (r : Reg) : (s.readFailed a r).dev = s.dev := rfl
@[simp] theorem State.readFailed_maxPoll (s : State) (a : BusAddr) (r : Reg) : (s.readFailed a r).maxPoll = s.maxPoll := rfl
@[simp] theorem State.readFailed_float (s : State) (a : BusAddr) (r : Reg) : (s.readFailed a r).float = s.float := rfl
@[simp] theorem State.readFailed_port (s : State) (a : BusAddr) (r : Reg) : (s.readFailed a r).port = s.port := rfl
@[simp] theorem State.readFailed_bench (s : State) (a : BusAddr) (r : Reg) : (s.readFailed a r).bench = s.bench := rfl
@[simp] theorem State.readFailed_inputs (s : State) (a : BusAddr) (r : Reg) : (s.readFailed a r).inputs = s.inputs.dropAnswer := rfl
@[simp] theorem State.readFailed_trace (s : State) (a : BusAddr) (r : Reg) : (s.readFailed a r).trace = s.trace ++ [.read a [r.pointer] none] := rfl

/-! ### readDone -/

@[simp] theorem State.readDone_handle (s : State) (a : BusAddr) (r : Reg) : (s.readDone a r).handle = s.handle := by cases r <;> rfl
@[simp] theorem State.readDone_seq (s : State) (a : BusAddr) (r : Reg) : (s.readDone a r).seq = s.seq := by cases r <;> rfl
@[simp] theorem State.readDone_polls (s : State) (a : BusAddr) (r : Reg) : (s.readDone a r).polls = s.polls := by cases r <;> rfl
@[simp] theorem State.readDone_sync (s : State) (a : BusAddr) (r : Reg) : (s.readDone a r).sync = s.sync := by cases r <;> rfl
@[simp] theorem State.readDone_err (s : State) (a : BusAddr) (r : Reg) : (s.readDone a r).err = s.err := by cases r <;> rfl
@[simp] theorem State.readDone_sample (s : State) (a : BusAddr) (r : Reg) : (s.readDone a r).sample = s.sample := by cases r <;> rfl
@[simp] theorem State.readDone_volts (s : State) (a : BusAddr) (r : Reg) : (s.readDone a r).volts = s.volts := by cases r <;> rfl
@[simp] theorem State.readDone_maxPoll (s : State) (a : BusAddr) (r : Reg) : (s.readDone a r).maxPoll = s.maxPoll := by cases r <;> rfl
@[simp] theorem State.readDone_float (s : State) (a : BusAddr) (r : Reg) : (s.readDone a r).float = s.float := by cases r <;> rfl
@[simp] theorem State.readDone_port (s : State) (a : BusAddr) (r : Reg) : (s.readDone a r).port = s.port := by cases r <;> rfl
@[simp] theorem State.readDone_bench (s : State) (a : BusAddr) (r : Reg) : (s.readDone a r).bench = s.bench := by cases r <;> rfl
@[simp] theorem State.readDone_dev (s : State) (a : BusAddr) (r : Reg) :
    (s.readDone a r).dev = { s.dev with ptr := r.pointer } := by cases r <;> rfl

/-! ### Draws -/

@[simp] theorem Inputs.dropEvent_events (i : Inputs) : i.dropEvent.events = i.events.tail := rfl
@[simp] theorem Inputs.dropEvent_answers (i : Inputs) : i.dropEvent.answers = i.answers := rfl
@[simp] theorem Inputs.dropEvent_words (i : Inputs) : i.dropEvent.words = i.words := rfl
@[simp] theorem Inputs.dropEvent_bits (i : Inputs) : i.dropEvent.bits = i.bits := rfl
@[simp] theorem Inputs.dropEvent_configs (i : Inputs) : i.dropEvent.configs = i.configs := rfl
@[simp] theorem Inputs.dropEvent_drawn (i : Inputs) : i.dropEvent.drawn = i.drawn + 1 := rfl
@[simp] theorem Inputs.dropAnswer_events (i : Inputs) : i.dropAnswer.events = i.events := rfl
@[simp] theorem Inputs.dropAnswer_answers (i : Inputs) : i.dropAnswer.answers = i.answers.tail := rfl
@[simp] theorem Inputs.dropAnswer_words (i : Inputs) : i.dropAnswer.words = i.words := rfl
@[simp] theorem Inputs.dropAnswer_bits (i : Inputs) : i.dropAnswer.bits = i.bits := rfl
@[simp] theorem Inputs.dropAnswer_configs (i : Inputs) : i.dropAnswer.configs = i.configs := rfl
@[simp] theorem Inputs.dropAnswer_drawn (i : Inputs) : i.dropAnswer.drawn = i.drawn + 1 := rfl
@[simp] theorem Inputs.dropWord_events (i : Inputs) : i.dropWord.events = i.events := rfl
@[simp] theorem Inputs.dropWord_answers (i : Inputs) : i.dropWord.answers = i.answers := rfl
@[simp] theorem Inputs.dropWord_words (i : Inputs) : i.dropWord.words = i.words.tail := rfl
@[simp] theorem Inputs.dropWord_bits (i : Inputs) : i.dropWord.bits = i.bits := rfl
@[simp] theorem Inputs.dropWord_configs (i : Inputs) : i.dropWord.configs = i.configs := rfl
@[simp] theorem Inputs.dropWord_drawn (i : Inputs) : i.dropWord.drawn = i.drawn + 1 := rfl
@[simp] theorem Inputs.dropBit_events (i : Inputs) : i.dropBit.events = i.events := rfl
@[simp] theorem Inputs.dropBit_answers (i : Inputs) : i.dropBit.answers = i.answers := rfl
@[simp] theorem Inputs.dropBit_words (i : Inputs) : i.dropBit.words = i.words := rfl
@[simp] theorem Inputs.dropBit_bits (i : Inputs) : i.dropBit.bits = i.bits.tail := rfl
@[simp] theorem Inputs.dropBit_configs (i : Inputs) : i.dropBit.configs = i.configs := rfl
@[simp] theorem Inputs.dropBit_drawn (i : Inputs) : i.dropBit.drawn = i.drawn + 1 := rfl
@[simp] theorem Inputs.dropConfig_events (i : Inputs) : i.dropConfig.events = i.events := rfl
@[simp] theorem Inputs.dropConfig_answers (i : Inputs) : i.dropConfig.answers = i.answers := rfl
@[simp] theorem Inputs.dropConfig_words (i : Inputs) : i.dropConfig.words = i.words := rfl
@[simp] theorem Inputs.dropConfig_bits (i : Inputs) : i.dropConfig.bits = i.bits := rfl
@[simp] theorem Inputs.dropConfig_configs (i : Inputs) : i.dropConfig.configs = i.configs.tail := rfl
@[simp] theorem Inputs.dropConfig_drawn (i : Inputs) : i.dropConfig.drawn = i.drawn + 1 := rfl

/-! ### The scripted events: only a step uses one up -/

@[simp] theorem State.deviceWrite_events (s : State) (w : Word) : (s.deviceWrite w).inputs.events = s.inputs.events := by
  unfold State.deviceWrite; dsimp only; split <;> rfl
@[simp] theorem State.afterRead_events (s : State) (r : Reg) : (s.afterRead r).inputs.events = s.inputs.events := by
  cases r
  · rfl
  · unfold State.afterRead; dsimp only; split <;> rfl
@[simp] theorem State.writeDone_events (s : State) (a : BusAddr) (v : Word) :
    (s.writeDone a v).inputs.events = s.inputs.events := by
  simp [State.writeDone]
@[simp] theorem State.writeFailed_events (s : State) (a : BusAddr) (v : Word) :
    (s.writeFailed a v).inputs.events = s.inputs.events := rfl
@[simp] theorem State.readDone_events (s : State) (a : BusAddr) (r : Reg) :
    (s.readDone a r).inputs.events = s.inputs.events := by
  simp [State.readDone]

end Sys2Proof.Machine
end

