-- ==== Sys2Proof/Laws/Ops.lean ====
section
/-! SUPPORT. One lemma per shared operation that says what it can do; the meanings' proofs cite these. -/

namespace Sys2Proof.Machine

/-! ### Bits of words -/

/-- The status test reads bit 15 and no other (42_conversion_sequencer.md R92). -/
theorem statusReads_eq (w : Word) : statusReads w = w.getLsbD 15 := by
  apply Bool.eq_iff_iff.mpr
  simp only [statusReads, statusMask, beq_iff_eq]
  constructor
  · intro h
    simpa using congrArg (fun x : Word => x.getLsbD 15) h
  · intro h
    apply BitVec.eq_of_getLsbD_eq
    intro i hi
    interval_cases i <;> simp [h]

/-- The mode test reads bit 8 (42_conversion_sequencer.md R89). -/
theorem singleShot_eq (w : Word) : singleShot w = w.getLsbD 8 := by
  apply Bool.eq_iff_iff.mpr
  simp only [singleShot, beq_iff_eq]
  constructor
  · intro h
    simpa using congrArg (fun x : Word => x.getLsbD 8) h
  · intro h
    apply BitVec.eq_of_getLsbD_eq
    intro i hi
    interval_cases i <;> simp [h]

/-- The two bytes of a register value give the value back (20_memory.md R38, R39). -/
@[simp] theorem assemble_hiByte_loByte (v : Word) : assemble (hiByte v) (loByte v) = v := by
  apply BitVec.eq_of_getLsbD_eq
  intro i hi
  simp only [assemble, hiByte, loByte, BitVec.getLsbD_or, BitVec.getLsbD_shiftLeft, BitVec.getLsbD_setWidth,
    BitVec.getLsbD_extractLsb']
  interval_cases i <;> simp

@[simp] theorem storedPart_getLsbD_eight (w : Word) : (storedPart w).getLsbD 8 = w.getLsbD 8 := by
  simp [storedPart]

@[simp] theorem storedPart_statusWord (b : Bool) (c : Stored) : storedPart (statusWord b c) = c := by
  apply BitVec.eq_of_getLsbD_eq
  intro i hi
  cases b <;> simp only [storedPart, statusWord, statusMask] <;> interval_cases i <;> simp

@[simp] theorem statusReads_statusWord (b : Bool) (c : Stored) : statusReads (statusWord b c) = b := by
  rw [statusReads_eq]
  cases b <;> simp [statusWord, statusMask]

@[simp] theorem singleShot_statusWord (b : Bool) (c : Stored) : singleShot (statusWord b c) = c.getLsbD 8 := by
  rw [singleShot_eq]
  cases b <;> simp [statusWord, statusMask]

/-- Setting bit 15 of the mirror leaves what the device stores. -/
@[simp] theorem storedPart_or_statusMask (w : Word) : storedPart (w ||| statusMask) = storedPart w := by
  apply BitVec.eq_of_getLsbD_eq
  intro i hi
  simp only [storedPart, statusMask]
  interval_cases i <;> simp

@[simp] theorem or_statusMask_getLsbD_fifteen (w : Word) : (w ||| statusMask).getLsbD 15 = true := by
  simp [statusMask]

@[simp] theorem singleShot_or_statusMask (w : Word) : singleShot (w ||| statusMask) = singleShot w := by
  simp [singleShot_eq, statusMask]

/-! ### The device -/

/-- A configuration read returns the stored bits and the status (20_memory.md R43). -/
theorem deviceRead_config (s : State) : s.deviceRead .config = statusWord s.statusBit s.dev.config := rfl

/-- A conversion read returns `HW.CONV` (20_memory.md R44). -/
theorem deviceRead_conversion (s : State) : s.deviceRead .conversion = s.dev.conv := rfl

/-- The value of a register read is what the device answers (20_memory.md R38). -/
@[simp] theorem readValue_eq (s : State) (r : Reg) : s.readValue r = s.dropAnswer.deviceRead r := by
  simp [State.readValue]

/-- A register write that is done has performed `device_write` (20_memory.md R37). -/
theorem writeDone_eq (s : State) (a : BusAddr) (v : Word) :
    s.writeDone a v =
      ((s.dropAnswer.logged (.write a (writeFrame v) .ok)).selectPointer Reg.config.pointer).deviceWrite v := by
  simp [State.writeDone]

@[simp] theorem writeDone_config (s : State) (a : BusAddr) (v : Word) :
    (s.writeDone a v).dev.config = storedPart v := by
  simp [writeDone_eq]

/-! ### The handle check and the transactions -/

/-- Every operation but Initialize is refused with NoHandle before a handle exists (60_exceptions.md R123). -/
theorem withHandle_none {s : State} (f : Handle → State) (h : s.handle = none) : s.withHandle f = s.raise .noHandle := by
  simp [State.withHandle, h]

theorem withHandle_some {s : State} {hd : Handle} (f : Handle → State) (h : s.handle = some hd) : s.withHandle f = f hd := by
  simp [State.withHandle, h]

/-- What the handle check can do. -/
theorem withHandle_cases (s : State) (f : Handle → State) :
    (s.handle = none ∧ s.withHandle f = s.raise .noHandle) ∨ ∃ hd, s.handle = some hd ∧ s.withHandle f = f hd := by
  cases h : s.handle with
  | none => exact .inl ⟨rfl, withHandle_none f h⟩
  | some hd => exact .inr ⟨hd, rfl, withHandle_some f h⟩

/-- What a register write can do (20_memory.md R37). -/
theorem memWrite_cases (s : State) (a : BusAddr) (v : Word) (onError onOk : State → State) :
    (s.inputs.answer = .transportError ∧ s.memWrite a v onError onOk = onError (s.writeFailed a v)) ∨
      (s.inputs.answer = .ok ∧ s.memWrite a v onError onOk = onOk (s.writeDone a v)) := by
  cases h : s.inputs.answer with
  | ok => exact .inr ⟨rfl, by simp [State.memWrite, h]⟩
  | transportError => exact .inl ⟨rfl, by simp [State.memWrite, h]⟩

/-- What a register read can do (20_memory.md R38). -/
theorem memRead_cases (s : State) (a : BusAddr) (r : Reg) (onError : State → State) (onOk : Word → State → State) :
    (s.inputs.answer = .transportError ∧ s.memRead a r onError onOk = onError (s.readFailed a r)) ∨
      (s.inputs.answer = .ok ∧ s.memRead a r onError onOk = onOk (s.dropAnswer.deviceRead r) (s.readDone a r)) := by
  cases h : s.inputs.answer with
  | ok => exact .inr ⟨rfl, by simp [State.memRead, h]⟩
  | transportError => exact .inl ⟨rfl, by simp [State.memRead, h]⟩

theorem memWrite_ok {s : State} (a : BusAddr) (v : Word) (onError onOk : State → State) (h : s.inputs.answer = .ok) :
    s.memWrite a v onError onOk = onOk (s.writeDone a v) := by
  simp [State.memWrite, h]

theorem memWrite_error {s : State} (a : BusAddr) (v : Word) (onError onOk : State → State)
    (h : s.inputs.answer = .transportError) : s.memWrite a v onError onOk = onError (s.writeFailed a v) := by
  simp [State.memWrite, h]

theorem memRead_ok {s : State} (a : BusAddr) (r : Reg) (onError : State → State) (onOk : Word → State → State)
    (h : s.inputs.answer = .ok) :
    s.memRead a r onError onOk = onOk (s.dropAnswer.deviceRead r) (s.readDone a r) := by
  simp [State.memRead, h]

theorem memRead_error {s : State} (a : BusAddr) (r : Reg) (onError : State → State) (onOk : Word → State → State)
    (h : s.inputs.answer = .transportError) : s.memRead a r onError onOk = onError (s.readFailed a r) := by
  simp [State.memRead, h]

/-! ### The meanings that branch -/

/-- What a field setter can do once a handle exists (40_field_setters.md R78). -/
theorem setField_some {s : State} {h : Handle} (f : Field) (v : Word) (hh : s.handle = some h) :
    s.setField f v =
      if f.legal v then ((s.setCfg h (maskedUpdate h.cfg f.mask v)).setSync .dirty).respond
      else s.raise .invalidFieldValue :=
  withHandle_some _ hh

/-- What ReadSample's transitions are (42_conversion_sequencer.md R100). -/
theorem sampleStep_cases {s : State} {h : Handle} (hh : s.handle = some h) :
    (s.seq = .idle ∧ singleShot h.cfg = true ∧
        s.sampleStep = s.triggerCommit h (fun t => t.raise .transportError) (fun t => t.setSeq .triggered)) ∨
      (s.seq = .idle ∧ singleShot h.cfg = false ∧ s.sampleStep = s.setSeq .ready) ∨
      (s.seq = .triggered ∧ s.sampleStep = s.startPolling) ∨
      (s.seq = .polling ∧ s.maxPoll = some s.polls ∧ s.sampleStep = s.raise .pollTimeout) ∨
      (s.seq = .polling ∧ s.maxPoll ≠ some s.polls ∧
        s.sampleStep =
          s.refreshCfg h (fun t => t.raise .transportError) (fun v t => t.countPoll.pollTest (statusReads v))) ∨
      (s.seq = .ready ∧ s.sampleStep = s.readConversion h) := by
  unfold State.sampleStep
  rw [withHandle_some _ hh]
  cases hs : s.seq with
  | idle =>
    cases hm : singleShot h.cfg with
    | true => exact .inl ⟨rfl, rfl, by simp [State.startSample, hm]⟩
    | false => exact .inr (.inl ⟨rfl, rfl, by simp [State.startSample, hm]⟩)
  | triggered => exact .inr (.inr (.inl ⟨rfl, rfl⟩))
  | polling =>
    by_cases hb : s.maxPoll = some s.polls
    · exact .inr (.inr (.inr (.inl ⟨rfl, hb, by simp [State.poll, hb]⟩)))
    · exact .inr (.inr (.inr (.inr (.inl ⟨rfl, hb, by simp [State.poll, hb]⟩))))
  | ready => exact .inr (.inr (.inr (.inr (.inr ⟨rfl, rfl⟩))))

/-! ### The step -/

/-- What a step can do: an agent other than the block moves, or the block takes its turn (00_scope.md R8). -/
theorem turn_cases (s : State) :
    turn s = blockTurn s.dropEvent ∨
      (s.dev.busy = true ∧ turn s = .done s.dropEvent.convDone) ∨
      (s.dev.singleShot = false ∧ turn s = .done s.dropEvent.contUpdate) ∨
      (s.inputs.event = .blockReset ∧ turn s = .done s.dropEvent.blockReset) ∨
      (s.inputs.event = .deviceReset ∧ turn s = .done s.dropEvent.deviceReset) := by
  unfold turn
  cases he : s.inputs.event with
  | turn a =>
    cases a with
    | block => exact .inl rfl
    | convDone =>
      cases hb : s.dev.busy with
      | true => exact .inr (.inl ⟨rfl, by simp [eventTurn, State.convDoneEnabled, hb]⟩)
      | false => exact .inl (by simp [eventTurn, State.convDoneEnabled, hb])
    | contUpdate =>
      cases hc : s.dev.singleShot with
      | true => exact .inl (by simp [eventTurn, State.contUpdateEnabled, hc])
      | false => exact .inr (.inr (.inl ⟨rfl, by simp [eventTurn, State.contUpdateEnabled, hc]⟩))
  | blockReset => exact .inr (.inr (.inr (.inl ⟨rfl, rfl⟩)))
  | deviceReset => exact .inr (.inr (.inr (.inr ⟨rfl, rfl⟩)))

/-- What stands before the block, a host's command or a row run on its own (log 21). -/
theorem presented_cases (s : State) :
    (s.bench = [] ∧ s.port = [] ∧ s.presented = none) ∨
      (∃ w rest, s.bench = [] ∧ s.port = w :: rest ∧ s.presented = some (.command w) ∧ s.taken = { s with port := rest }) ∨
      ∃ it rest, s.bench = it :: rest ∧ s.presented = some it ∧ s.taken = { s with bench := rest } := by
  unfold State.presented State.taken
  cases hb : s.bench with
  | cons it rest => exact .inr (.inr ⟨it, rest, rfl, rfl, rfl⟩)
  | nil =>
    cases hp : s.port with
    | nil => exact .inl ⟨rfl, rfl, rfl⟩
    | cons w rest => exact .inr (.inl ⟨w, rest, rfl, rfl, rfl, rfl⟩)

/-- What the block's turn can be: waiting, the ReadSample in progress, or the item presented (R101, R132). -/
theorem blockTurn_cases (s : State) :
    (s.seq = .idle ∧ s.presented = none ∧ blockTurn s = .done s) ∨
      (s.seq ≠ .idle ∧ blockTurn s = .run .readSample s) ∨
      ∃ it, s.seq = .idle ∧ s.presented = some it ∧ blockTurn s = itemTurn it s.taken := by
  unfold blockTurn
  cases hs : s.seq with
  | idle =>
    cases hp : s.presented with
    | none => exact .inl ⟨rfl, rfl, rfl⟩
    | some it => exact .inr (.inr ⟨it, rfl, rfl, rfl⟩)
  | triggered => exact .inr (.inl ⟨by simp, rfl⟩)
  | polling => exact .inr (.inl ⟨by simp, rfl⟩)
  | ready => exact .inr (.inl ⟨by simp, rfl⟩)

/-- What a presented item can come to: the instruction it decodes to, a rejection that ends the step, or a refusal. -/
theorem itemTurn_cases (it : Item) (s : State) :
    (∃ i, decode it = .instr i ∧ itemTurn it s = .run i s) ∨
      itemTurn it s = .done (s.raise .illegalCommand) ∨
      itemTurn it s = .done (s.withHandle fun _ => s.raise .invalidFieldValue) ∨
      itemTurn it s = .done s ∨ ∃ r, itemTurn it s = .stop r := by
  unfold itemTurn
  cases hd : decode it with
  | instr i => exact .inl ⟨i, rfl, rfl⟩
  | rejected r =>
    cases r with
    | reservedOp => exact .inr (.inl rfl)
    | operandNotZero => exact .inr (.inl rfl)
    | addressTooWide => exact .inr (.inl rfl)
    | notInEnumeration => exact .inr (.inr (.inl rfl))
    | noStart => exact .inr (.inr (.inr (.inl rfl)))
    | neverIssued => exact .inr (.inr (.inr (.inr ⟨_, rfl⟩)))
    | undefinedPointer => exact .inr (.inr (.inr (.inr ⟨_, rfl⟩)))

end Sys2Proof.Machine
end

