-- ==== Sys2Proof/Laws/Effect.lean ====
section
/-! SUPPORT. The inversion of `exec` and of `step`: everything an instruction and a step can do, each effect named once. Every
invariant is derived from these. -/

namespace Sys2Proof.Machine

/-- The state in which the trigger Commit issues its write: bit 15 of the mirror set, `SYNC` Dirty (R88). -/
def State.armed (h : Handle) (s : State) : State := (s.setCfg h (h.cfg ||| statusMask)).setSync .dirty

/-- What `exec i s` can come to. -/
inductive Effect (i : Instr) (s : State) : State → Prop where
  /-- an error found before any bus call -/
  | rejected (e : Err) : Effect i s (s.raise e)
  /-- a setter, or a named value of its field -/
  | setter (h : Handle) (f : Field) (v : Word) (hi : i ≠ .readSample) (hh : s.handle = some h)
      (hl : f.legal v = true) :
      Effect i s ((s.setCfg h (maskedUpdate h.cfg f.mask v)).setSync .dirty).respond
  /-- ToVolts -/
  | volts (x : Volts) (hi : i ≠ .readSample) : Effect i s (s.setVolts x).respond
  /-- a bus read that fails -/
  | readFailed (a : BusAddr) (r : Reg) (ha : s.inputs.answer = .transportError) :
      Effect i s ((s.readFailed a r).raise .transportError)
  /-- Initialize -/
  | bound (w : Word) (hi : i = .initialise w) (ha : s.inputs.answer = .ok) :
      Effect i s
        ((((s.readDone (w.setWidth 7) .config).bind (w.setWidth 7) (s.dropAnswer.deviceRead .config)).setSync .clean).respond)
  /-- Refresh -/
  | refreshed (h : Handle) (hi : i ≠ .readSample) (hh : s.handle = some h) (ha : s.inputs.answer = .ok) :
      Effect i s ((((s.readDone h.addr .config).setCfg h (s.dropAnswer.deviceRead .config)).setSync .clean).respond)
  /-- a polling Refresh of ReadSample -/
  | polled (h : Handle) (hi : i = .readSample) (hh : s.handle = some h) (hs : s.seq = .polling)
      (hm : s.maxPoll ≠ some s.polls) (ha : s.inputs.answer = .ok) :
      Effect i s
        ((((s.readDone h.addr .config).setCfg h (s.dropAnswer.deviceRead .config)).setSync .clean).countPoll.pollTest
          s.dropAnswer.statusBit)
  /-- a read frame on its own -/
  | frameRead (h : Handle) (r : Reg) (hi : i ≠ .readSample) (hh : s.handle = some h) (ha : s.inputs.answer = .ok) :
      Effect i s (s.readDone h.addr r).respond
  /-- the conversion read of ReadSample -/
  | sampled (h : Handle) (hi : i = .readSample) (hh : s.handle = some h) (hs : s.seq = .ready) (ha : s.inputs.answer = .ok) :
      Effect i s ((((s.readDone h.addr .conversion).setSample s.dev.conv).setSeq .idle).respond)
  /-- a write frame on its own, failed -/
  | frameFailed (h : Handle) (v : Word) (hi : i = .regWrite v) (hh : s.handle = some h)
      (ha : s.inputs.answer = .transportError) : Effect i s ((s.writeFailed h.addr v).raise .transportError)
  /-- a write frame on its own, done -/
  | frameWritten (h : Handle) (v : Word) (hi : i = .regWrite v) (hh : s.handle = some h) (ha : s.inputs.answer = .ok) :
      Effect i s (s.writeDone h.addr v).respond
  /-- Commit, failed -/
  | commitFailed (h : Handle) (hi : i = .commit) (hh : s.handle = some h) (ha : s.inputs.answer = .transportError) :
      Effect i s (((s.writeFailed h.addr h.cfg).setSync .dirty).raise .transportError)
  /-- Commit, done -/
  | committed (h : Handle) (hi : i = .commit) (hh : s.handle = some h) (ha : s.inputs.answer = .ok) :
      Effect i s (((s.writeDone h.addr h.cfg).setSync .clean).respond)
  /-- a trigger Commit, failed -/
  | triggerFailed (h : Handle) (hh : s.handle = some h) (ha : s.inputs.answer = .transportError) :
      Effect i s ((((s.armed h).writeFailed h.addr (h.cfg ||| statusMask)).setSync .dirty).raise .transportError)
  /-- the trigger Commit of ReadSample, done -/
  | triggered (h : Handle) (hi : i = .readSample) (hh : s.handle = some h) (hs : s.seq = .idle)
      (hm : singleShot h.cfg = true) (ha : s.inputs.answer = .ok) :
      Effect i s ((((s.armed h).writeDone h.addr (h.cfg ||| statusMask)).setSync .clean).setSeq .triggered)
  /-- the start value on its own, done -/
  | started (h : Handle) (hi : i = .statusStart) (hh : s.handle = some h) (ha : s.inputs.answer = .ok) :
      Effect i s ((((s.armed h).writeDone h.addr (h.cfg ||| statusMask)).setSync .clean).respond)
  /-- the continuous path of ReadSample -/
  | continuous (h : Handle) (hi : i = .readSample) (hh : s.handle = some h) (hs : s.seq = .idle)
      (hm : singleShot h.cfg = false) : Effect i s (s.setSeq .ready)
  /-- ReadSample, Triggered to Polling -/
  | startPolling (hi : i = .readSample) (hs : s.seq = .triggered) : Effect i s s.startPolling
  /-- a status value that is read -/
  | tested (b : Bool) (hi : i = .statusBusy ∨ i = .statusReady) : Effect i s (s.pollTest b)

/-- A setter's outcome is one of two effects. -/
theorem setField_effect {i : Instr} (hi : i ≠ .readSample) (s : State) (f : Field) (v : Word) :
    Effect i s (s.setField f v) := by
  rcases withHandle_cases s (fun h => if f.legal v then ((s.setCfg h (maskedUpdate h.cfg f.mask v)).setSync .dirty).respond
      else s.raise .invalidFieldValue) with ⟨_, e⟩ | ⟨h, hh, e⟩ <;> unfold State.setField <;> rw [e]
  · exact .rejected _
  · cases hl : f.legal v with
    | true => exact .setter h f v hi hh hl
    | false => exact .rejected _

/-- A trigger Commit's write, failed or done. -/
theorem triggerCommit_cases (s : State) (h : Handle) (onError onOk : State → State) :
    (s.inputs.answer = .transportError ∧
        s.triggerCommit h onError onOk =
          onError (((s.armed h).writeFailed h.addr (h.cfg ||| statusMask)).setSync .dirty)) ∨
      (s.inputs.answer = .ok ∧
        s.triggerCommit h onError onOk = onOk (((s.armed h).writeDone h.addr (h.cfg ||| statusMask)).setSync .clean)) :=
  memWrite_cases (s.armed h) h.addr (h.cfg ||| statusMask) (fun t => onError (t.setSync .dirty))
    (fun t => onOk (t.setSync .clean))

/-- ReadSample's next transition is one of the effects. -/
theorem sampleStep_effect (s : State) : Effect .readSample s s.sampleStep := by
  cases hh : s.handle with
  | none => rw [State.sampleStep, withHandle_none _ hh]; exact .rejected _
  | some h =>
    rcases sampleStep_cases hh with ⟨hs, hm, e⟩ | ⟨hs, hm, e⟩ | ⟨hs, e⟩ | ⟨_, _, e⟩ | ⟨hs, hm, e⟩ | ⟨hs, e⟩ <;> rw [e]
    · rcases triggerCommit_cases s h (fun t => t.raise .transportError) (fun t => t.setSeq .triggered) with
        ⟨ha, e⟩ | ⟨ha, e⟩ <;> rw [e]
      · exact .triggerFailed h hh ha
      · exact .triggered h rfl hh hs hm ha
    · exact .continuous h rfl hh hs hm
    · exact .startPolling rfl hs
    · exact .rejected _
    · rcases memRead_cases s h.addr .config (fun t => t.raise .transportError)
        (fun v t => ((t.setCfg h v).setSync .clean).countPoll.pollTest (statusReads v)) with ⟨ha, e⟩ | ⟨ha, e⟩ <;>
        rw [State.refreshCfg, e]
      · exact .readFailed _ _ ha
      · rw [deviceRead_config, statusReads_statusWord]; exact .polled h rfl hh hs hm ha
    · rcases memRead_cases s h.addr .conversion (fun t => t.raise .transportError)
        (fun v t => ((t.setSample v).setSeq .idle).respond) with ⟨ha, e⟩ | ⟨ha, e⟩ <;> rw [State.readConversion, e]
      · exact .readFailed _ _ ha
      · exact .sampled h rfl hh hs ha

/-- The inversion of `exec`. -/
theorem exec_effect {i : Instr} {s t : State} (he : exec i s = .next t) : Effect i s t := by
  cases i with
  | initialise a =>
    injection he with he; subst he
    by_cases h7 : a >>> 7 = 0#16
    · rw [if_pos h7]
      rcases memRead_cases s (a.setWidth 7) .config (fun t => t.raise .transportError)
        (fun v t => ((t.bind (a.setWidth 7) v).setSync .clean).respond) with ⟨ha, e⟩ | ⟨ha, e⟩ <;> rw [State.initialise, e]
      · exact .readFailed _ _ ha
      · exact .bound a rfl ha
    · rw [if_neg h7]; exact .rejected _
  | commit =>
    injection he with he; subst he
    rcases withHandle_cases s (fun h => s.commitCfg h (fun t => t.raise .transportError) (fun t => t.respond)) with
      ⟨_, e⟩ | ⟨h, hh, e⟩ <;> rw [e]
    · exact .rejected _
    · rcases memWrite_cases s h.addr h.cfg (fun t => (t.setSync .dirty).raise .transportError)
        (fun t => (t.setSync .clean).respond) with ⟨ha, e⟩ | ⟨ha, e⟩ <;> rw [State.commitCfg, e]
      · exact .commitFailed h rfl hh ha
      · exact .committed h rfl hh ha
  | refresh =>
    injection he with he; subst he
    rcases withHandle_cases s (fun h => s.refreshCfg h (fun t => t.raise .transportError) (fun _ t => t.respond)) with
      ⟨_, e⟩ | ⟨h, hh, e⟩ <;> rw [e]
    · exact .rejected _
    · rcases memRead_cases s h.addr .config (fun t => t.raise .transportError)
        (fun v t => ((t.setCfg h v).setSync .clean).respond) with ⟨ha, e⟩ | ⟨ha, e⟩ <;> rw [State.refreshCfg, e]
      · exact .readFailed _ _ ha
      · exact .refreshed h (by simp) hh ha
  | readSample => injection he with he; subst he; exact sampleStep_effect s
  | toVolts raw =>
    injection he with he; subst he
    cases hh : s.handle with
    | none => rw [State.toVolts, withHandle_none _ hh]; exact .rejected _
    | some h =>
      rw [State.toVolts, withHandle_some _ hh]
      cases fullScale (gainCode h.cfg) with
      | none => exact .rejected _
      | some fsr => exact .volts _ (by simp)
  | regWrite v =>
    injection he with he; subst he
    rcases withHandle_cases s (fun h => s.memWrite h.addr v (fun t => t.raise .transportError) (fun t => t.respond)) with
      ⟨_, e⟩ | ⟨h, hh, e⟩ <;> rw [e]
    · exact .rejected _
    · rcases memWrite_cases s h.addr v (fun t => t.raise .transportError) (fun t => t.respond) with ⟨ha, e⟩ | ⟨ha, e⟩ <;>
        rw [e]
      · exact .frameFailed h v rfl hh ha
      · exact .frameWritten h v rfl hh ha
  | regReadConfig =>
    injection he with he; subst he
    rcases withHandle_cases s
      (fun h => s.memRead h.addr .config (fun t => t.raise .transportError) (fun _ t => t.respond)) with
      ⟨_, e⟩ | ⟨h, hh, e⟩ <;> rw [e]
    · exact .rejected _
    · rcases memRead_cases s h.addr .config (fun t => t.raise .transportError) (fun _ t => t.respond) with
        ⟨ha, e⟩ | ⟨ha, e⟩ <;> rw [e]
      · exact .readFailed _ _ ha
      · exact .frameRead h _ (by simp) hh ha
  | regReadConversion =>
    injection he with he; subst he
    rcases withHandle_cases s
      (fun h => s.memRead h.addr .conversion (fun t => t.raise .transportError) (fun _ t => t.respond)) with
      ⟨_, e⟩ | ⟨h, hh, e⟩ <;> rw [e]
    · exact .rejected _
    · rcases memRead_cases s h.addr .conversion (fun t => t.raise .transportError) (fun _ t => t.respond) with
        ⟨ha, e⟩ | ⟨ha, e⟩ <;> rw [e]
      · exact .readFailed _ _ ha
      · exact .frameRead h _ (by simp) hh ha
  | cfgWord w => cases he
  | statusStart =>
    injection he with he; subst he
    rcases withHandle_cases s (fun h => s.triggerCommit h (fun t => t.raise .transportError) (fun t => t.respond)) with
      ⟨_, e⟩ | ⟨h, hh, e⟩ <;> rw [e]
    · exact .rejected _
    · rcases triggerCommit_cases s h (fun t => t.raise .transportError) (fun t => t.respond) with ⟨ha, e⟩ | ⟨ha, e⟩ <;>
        rw [e]
      · exact .triggerFailed h hh ha
      · exact .started h rfl hh ha
  | statusBusy => injection he with he; subst he; exact .tested false (.inl rfl)
  | statusReady => injection he with he; subst he; exact .tested true (.inr rfl)
  | _ => injection he with he; subst he; exact setField_effect (by simp) _ _ _

/-- An instruction leaves what is presented and what events are scripted. -/
theorem effect_keeps_presented_and_events {i : Instr} {s t : State} (h : Effect i s t) :
    t.port = s.port ∧ t.bench = s.bench ∧ t.inputs.events = s.inputs.events := by
  cases h <;> simp [State.armed]

/-- An instruction leaves the parameters (00_scope.md R10). -/
theorem effect_keeps_parameters {i : Instr} {s t : State} (h : Effect i s t) : t.maxPoll = s.maxPoll ∧ t.float = s.float := by
  cases h <;> simp [State.armed]

/-- Only a write frame decodes to a bare register write (30_encoding.md R66). -/
theorem writeFrame_of_decode_regWrite {it : Item} {v : Word} (h : decode it = .instr (.regWrite v)) :
    ∃ w, it = .writeFrame w := by
  cases it with
  | writeFrame w => exact ⟨w, rfl⟩
  | command w =>
    simp only [decode, decodeCommand, decodeBare] at h
    split at h <;> first | (split at h <;> simp at h) | simp at h
  | readFrame w =>
    simp only [decode, decodeReadFrame] at h
    split at h <;> simp at h
  | layout w => simp [decode] at h
  | value f w =>
    simp only [decode, decodeValue] at h
    split at h
    · unfold Field.named at h
      split at h <;> simp at h
    · simp at h
  | statusWritten w =>
    simp only [decode] at h
    split at h <;> simp at h
  | statusRead w =>
    simp only [decode] at h
    split at h <;> simp at h

/-- What a step from `s` can come to. -/
inductive StepEffect (s : State) : State → Prop where
  /-- nothing is presented to the idle block -/
  | quiet (hs : s.seq = .idle) (hp : s.presented = none) : StepEffect s s.dropEvent
  /-- what is presented has no effect -/
  | skipped (it : Item) (hs : s.seq = .idle) (hp : s.presented = some it) : StepEffect s s.dropEvent.taken
  /-- what is presented is rejected with an error -/
  | rejected (it : Item) (e : Err) (hs : s.seq = .idle) (hp : s.presented = some it) :
      StepEffect s (s.dropEvent.taken.raise e)
  /-- the presented item runs -/
  | item (it : Item) (i : Instr) (t : State) (hs : s.seq = .idle) (hp : s.presented = some it)
      (hd : decode it = .instr i) (ht : Effect i s.dropEvent.taken t) : StepEffect s t
  /-- the ReadSample in progress goes on -/
  | sampling (t : State) (hs : s.seq ≠ .idle) (ht : Effect .readSample s.dropEvent t) : StepEffect s t
  /-- ConvDone -/
  | convDone (hb : s.dev.busy = true) : StepEffect s s.dropEvent.convDone
  /-- ContUpdate -/
  | contUpdate (hc : s.dev.singleShot = false) : StepEffect s s.dropEvent.contUpdate
  /-- block reset -/
  | blockReset (he : s.inputs.event = .blockReset) : StepEffect s s.dropEvent.blockReset
  /-- device reset -/
  | deviceReset (he : s.inputs.event = .deviceReset) : StepEffect s s.dropEvent.deviceReset

/-- The inversion of `step`. -/
theorem step_effect {s t : State} (hst : step s = .next t) : StepEffect s t := by
  unfold step at hst
  rcases turn_cases s with e | ⟨hb, e⟩ | ⟨hc, e⟩ | ⟨he, e⟩ | ⟨he, e⟩ <;> rw [e] at hst
  · rcases blockTurn_cases s.dropEvent with ⟨hs, hp, e⟩ | ⟨hs, e⟩ | ⟨it, hs, hp, e⟩ <;> rw [e] at hst
    · injection hst with hst; subst hst
      exact .quiet hs hp
    · exact .sampling t hs (exec_effect hst)
    · rcases itemTurn_cases it s.dropEvent.taken with ⟨i, hd, e⟩ | e | e | e | ⟨r, e⟩ <;> rw [e] at hst
      · exact .item it i t hs hp hd (exec_effect hst)
      · injection hst with hst; subst hst; exact .rejected it _ hs hp
      · injection hst with hst; subst hst
        rcases withHandle_cases s.dropEvent.taken (fun _ => s.dropEvent.taken.raise .invalidFieldValue) with
          ⟨_, e⟩ | ⟨_, _, e⟩ <;> rw [e] <;> exact .rejected it _ hs hp
      · injection hst with hst; subst hst; exact .skipped it hs hp
      · cases hst
  · injection hst with hst; subst hst; exact .convDone hb
  · injection hst with hst; subst hst; exact .contUpdate hc
  · injection hst with hst; subst hst; exact .blockReset he
  · injection hst with hst; subst hst; exact .deviceReset he

/-- No step changes a parameter (00_scope.md R10; log 7). -/
theorem step_keeps_parameters {s t : State} (hst : step s = .next t) : t.maxPoll = s.maxPoll ∧ t.float = s.float := by
  cases step_effect hst with
  | item _ _ _ _ _ _ ht => simpa using effect_keeps_parameters ht
  | sampling _ _ ht => simpa using effect_keeps_parameters ht
  | _ => simp

end Sys2Proof.Machine
end

