-- ==== Sys2Proof/Laws/PerInstr.lean ====
section
/-! SUPPORT. Facts per instruction: each encoding has the width and the fixed bits of its row of spec/opcode_table.json. -/

namespace Sys2Proof.Laws

/-- A row of the opcode table: its width, its mask and its match. -/
structure Row where
  width : Nat
  mask : BitVec 24
  fixed : BitVec 24
  deriving DecidableEq, Repr

/-- The rows as the table gives them. -/
def row : Instr → Row
  | .initialise _ => ⟨20, 0x0FFF80#24, 0x000000#24⟩
  | .setInputMux _ => ⟨20, 0x0F0000#24, 0x010000#24⟩
  | .setGain _ => ⟨20, 0x0F0000#24, 0x020000#24⟩
  | .setMode _ => ⟨20, 0x0F0000#24, 0x030000#24⟩
  | .setDataRate _ => ⟨20, 0x0F0000#24, 0x040000#24⟩
  | .commit => ⟨20, 0x0FFFFF#24, 0x050000#24⟩
  | .refresh => ⟨20, 0x0FFFFF#24, 0x060000#24⟩
  | .readSample => ⟨20, 0x0FFFFF#24, 0x070000#24⟩
  | .toVolts _ => ⟨20, 0x0F0000#24, 0x080000#24⟩
  | .regWrite _ => ⟨24, 0xFF0000#24, 0x010000#24⟩
  | .regReadConfig => ⟨8, 0x0000FF#24, 0x000001#24⟩
  | .regReadConversion => ⟨8, 0x0000FF#24, 0x000000#24⟩
  | .cfgWord _ => ⟨16, 0x000000#24, 0x000000#24⟩
  | .muxDiff01 => ⟨16, 0x007000#24, 0x000000#24⟩
  | .muxDiff03 => ⟨16, 0x007000#24, 0x001000#24⟩
  | .muxDiff13 => ⟨16, 0x007000#24, 0x002000#24⟩
  | .muxDiff23 => ⟨16, 0x007000#24, 0x003000#24⟩
  | .muxSingle0 => ⟨16, 0x007000#24, 0x004000#24⟩
  | .muxSingle1 => ⟨16, 0x007000#24, 0x005000#24⟩
  | .muxSingle2 => ⟨16, 0x007000#24, 0x006000#24⟩
  | .muxSingle3 => ⟨16, 0x007000#24, 0x007000#24⟩
  | .pga6144 => ⟨16, 0x000E00#24, 0x000000#24⟩
  | .pga4096 => ⟨16, 0x000E00#24, 0x000200#24⟩
  | .pga2048 => ⟨16, 0x000E00#24, 0x000400#24⟩
  | .pga1024 => ⟨16, 0x000E00#24, 0x000600#24⟩
  | .pga0512 => ⟨16, 0x000E00#24, 0x000800#24⟩
  | .pga0256 => ⟨16, 0x000E00#24, 0x000A00#24⟩
  | .modeContinuous => ⟨16, 0x000100#24, 0x000000#24⟩
  | .modeSingleShot => ⟨16, 0x000100#24, 0x000100#24⟩
  | .rate8 => ⟨16, 0x0000E0#24, 0x000000#24⟩
  | .rate16 => ⟨16, 0x0000E0#24, 0x000020#24⟩
  | .rate32 => ⟨16, 0x0000E0#24, 0x000040#24⟩
  | .rate64 => ⟨16, 0x0000E0#24, 0x000060#24⟩
  | .rate128 => ⟨16, 0x0000E0#24, 0x000080#24⟩
  | .rate250 => ⟨16, 0x0000E0#24, 0x0000A0#24⟩
  | .rate475 => ⟨16, 0x0000E0#24, 0x0000C0#24⟩
  | .rate860 => ⟨16, 0x0000E0#24, 0x0000E0#24⟩
  | .statusStart => ⟨16, 0x008000#24, 0x008000#24⟩
  | .statusBusy => ⟨16, 0x008000#24, 0x000000#24⟩
  | .statusReady => ⟨16, 0x008000#24, 0x008000#24⟩

/-- The bits of a presented item, read as one number. -/
def itemBits : Item → BitVec 24
  | .command w => w.setWidth 24
  | .writeFrame w => w
  | .readFrame w => w.setWidth 24
  | .layout w => w.setWidth 24
  | .value _ w => w.setWidth 24
  | .statusWritten w => w.setWidth 24
  | .statusRead w => w.setWidth 24

/-- The width of a presented item. -/
def itemWidth : Item → Nat
  | .command _ => 20
  | .writeFrame _ => 24
  | .readFrame _ => 8
  | .layout _ => 16
  | .value _ _ => 16
  | .statusWritten _ => 16
  | .statusRead _ => 16

/-- A command word holds its op where the table fixes it. -/
theorem commandWord_fixed (op : BitVec 4) (v : Word) :
    (commandWord op v).setWidth 24 &&& 0x0F0000#24 = op.setWidth 24 <<< 16 := by
  apply BitVec.eq_of_getLsbD_eq
  intro i hi
  simp only [commandWord]
  interval_cases i <;> simp

/-- A write frame holds its pointer byte where the table fixes it. -/
theorem frameWord_fixed (p : Byte) (v : Word) : frameWord p v &&& 0xFF0000#24 = p.setWidth 24 <<< 16 := by
  apply BitVec.eq_of_getLsbD_eq
  intro i hi
  simp only [frameWord]
  interval_cases i <;> simp

/-- Initialize's operand of a well-formed instruction has bits 15..7 zero. -/
theorem initialise_fixed (a : Word) (h : a >>> 7 = 0#16) :
    (commandWord 0x0#4 a).setWidth 24 &&& 0x0FFF80#24 = 0#24 := by
  have bit : ∀ i (hi : i < 16), 7 ≤ i → a[i] = false := by
    intro i hi h7
    have := congrArg (fun x : Word => x.getLsbD (i - 7)) h
    simpa [Nat.add_sub_cancel' h7, BitVec.getLsbD_eq_getElem hi] using this
  apply BitVec.eq_of_getLsbD_eq
  intro i hi
  simp only [commandWord]
  interval_cases i <;> simp <;> exact bit _ (by omega) (by omega)

namespace TableRow

/-- The encoding has the row's width and the row's fixed bits. -/
def Statement (i : Instr) : Prop :=
  i.WellFormed → itemWidth (encode i) = (row i).width ∧ itemBits (encode i) &&& (row i).mask = (row i).fixed

theorem initialise (a : Word) : Statement (.initialise a) := fun h => ⟨rfl, initialise_fixed a (by simpa [Instr.WellFormed, Instr.wellFormedB] using h)⟩
theorem setInputMux (v : Word) : Statement (.setInputMux v) := fun _ => ⟨rfl, commandWord_fixed _ v⟩
theorem setGain (v : Word) : Statement (.setGain v) := fun _ => ⟨rfl, commandWord_fixed _ v⟩
theorem setMode (v : Word) : Statement (.setMode v) := fun _ => ⟨rfl, commandWord_fixed _ v⟩
theorem setDataRate (v : Word) : Statement (.setDataRate v) := fun _ => ⟨rfl, commandWord_fixed _ v⟩
theorem commit : Statement .commit := fun _ => ⟨rfl, by decide⟩
theorem refresh : Statement .refresh := fun _ => ⟨rfl, by decide⟩
theorem readSample : Statement .readSample := fun _ => ⟨rfl, by decide⟩
theorem toVolts (raw : Word) : Statement (.toVolts raw) := fun _ => ⟨rfl, commandWord_fixed _ raw⟩
theorem regWrite (v : Word) : Statement (.regWrite v) := fun _ => ⟨rfl, frameWord_fixed _ v⟩
theorem regReadConfig : Statement .regReadConfig := fun _ => ⟨rfl, by decide⟩
theorem regReadConversion : Statement .regReadConversion := fun _ => ⟨rfl, by decide⟩
theorem cfgWord (w : Word) : Statement (.cfgWord w) := fun _ => ⟨rfl, BitVec.and_zero⟩
theorem muxDiff01 : Statement .muxDiff01 := fun _ => ⟨rfl, by decide⟩
theorem muxDiff03 : Statement .muxDiff03 := fun _ => ⟨rfl, by decide⟩
theorem muxDiff13 : Statement .muxDiff13 := fun _ => ⟨rfl, by decide⟩
theorem muxDiff23 : Statement .muxDiff23 := fun _ => ⟨rfl, by decide⟩
theorem muxSingle0 : Statement .muxSingle0 := fun _ => ⟨rfl, by decide⟩
theorem muxSingle1 : Statement .muxSingle1 := fun _ => ⟨rfl, by decide⟩
theorem muxSingle2 : Statement .muxSingle2 := fun _ => ⟨rfl, by decide⟩
theorem muxSingle3 : Statement .muxSingle3 := fun _ => ⟨rfl, by decide⟩
theorem pga6144 : Statement .pga6144 := fun _ => ⟨rfl, by decide⟩
theorem pga4096 : Statement .pga4096 := fun _ => ⟨rfl, by decide⟩
theorem pga2048 : Statement .pga2048 := fun _ => ⟨rfl, by decide⟩
theorem pga1024 : Statement .pga1024 := fun _ => ⟨rfl, by decide⟩
theorem pga0512 : Statement .pga0512 := fun _ => ⟨rfl, by decide⟩
theorem pga0256 : Statement .pga0256 := fun _ => ⟨rfl, by decide⟩
theorem modeContinuous : Statement .modeContinuous := fun _ => ⟨rfl, by decide⟩
theorem modeSingleShot : Statement .modeSingleShot := fun _ => ⟨rfl, by decide⟩
theorem rate8 : Statement .rate8 := fun _ => ⟨rfl, by decide⟩
theorem rate16 : Statement .rate16 := fun _ => ⟨rfl, by decide⟩
theorem rate32 : Statement .rate32 := fun _ => ⟨rfl, by decide⟩
theorem rate64 : Statement .rate64 := fun _ => ⟨rfl, by decide⟩
theorem rate128 : Statement .rate128 := fun _ => ⟨rfl, by decide⟩
theorem rate250 : Statement .rate250 := fun _ => ⟨rfl, by decide⟩
theorem rate475 : Statement .rate475 := fun _ => ⟨rfl, by decide⟩
theorem rate860 : Statement .rate860 := fun _ => ⟨rfl, by decide⟩
theorem statusStart : Statement .statusStart := fun _ => ⟨rfl, by decide⟩
theorem statusBusy : Statement .statusBusy := fun _ => ⟨rfl, by decide⟩
theorem statusReady : Statement .statusReady := fun _ => ⟨rfl, by decide⟩

end TableRow

end Sys2Proof.Laws
end

