-- ==== Sys2Proof/Tests/Slice0.lean ====
section
/-! SUPPORT. Tests: words written out from 30_encoding.md, one-step vectors of 95_test_vectors.md (each theorem cites its row or
rule), and for every statement with hypotheses a witness that meets them. -/

namespace Sys2Proof.Tests

open Sys2Proof Sys2Proof.Machine

/-! ### Small states -/

/-- What the test looks at holds of the next state; no other outcome passes. -/
def after (o : Host.Outcome State Fault Refusal) (p : State → Bool) : Bool :=
  match o with
  | .next t => p t
  | .fault _ => false
  | .refused _ => false

/-- The outcome is this refusal. -/
def refusedAs (o : Host.Outcome State Fault Refusal) (r : Refusal) : Bool :=
  match o with
  | .next _ => false
  | .fault _ => false
  | .refused q => q == r

/-- An environment that answers the first six bus calls with `a`. -/
def script (a : Answer) (events : List Event) : Inputs :=
  { events := events, answers := List.replicate 6 a, words := [0x1234#16, 0x0001#16, 0x0002#16, 0x0003#16],
    bits := [true, false], configs := [0x0583#15], drawn := 0 }

/-- A block bound to 0x48 with mirror `cfg`, idle and Clean; a device that holds `config` and `busy`; calls are answered `a`. -/
def bound (cfg : Word) (config : Stored) (busy : Bool) (a : Answer) : State :=
  { State.reset with
    handle := some { addr := 0x48#7, cfg := cfg }
    sync := .clean
    dev := { config := config, busy := busy, conv := 0x0777#16, lo := 0#16, hi := 0#16, ptr := 0#8 }
    inputs := script a [] }

/-- The same with no handle. -/
def unbound (config : Stored) (busy : Bool) (a : Answer) : State :=
  { bound 0#16 config busy a with handle := none, sync := .dirty }

/-- The state of the vectors RS1 to RS9 with the sequencer at `q`. -/
def sampling (q : Seq) (busy : Bool) (a : Answer) : State := { bound 0x93C3#16 0x13C3#15 busy a with seq := q }

/-- `s` with `it` before the block and the block's turn next. -/
def facing (it : Item) (s : State) : State := { s with inputs := script .ok [] }.present it

/-- The mirror. -/
def mirror (s : State) : Option Word := s.handle.map Handle.cfg

/-! ### Well-formedness -/

/-- R70: bits 15..7 of Initialize's operand must be zero. -/
theorem test_wf_refuses_wide_address : ¬ (Instr.initialise 0x0080#16).WellFormed := by decide

theorem test_wf_refuses_top_bit : ¬ (Instr.initialise 0x8048#16).WellFormed := by decide

theorem test_wf_takes_largest_address : (Instr.initialise 0x007F#16).WellFormed := by decide

theorem test_wf_takes_illegal_setter_operand : (Instr.setGain 0x0E00#16).WellFormed := by decide

/-! ### Decoding, bit by bit -/

/-- R69, R70. -/
theorem test_decode_commands :
    decode (.command 0b00000000000001001000#20) = .instr (.initialise 0x0048#16) ∧
    decode (.command 0b00010101000000000000#20) = .instr (.setInputMux 0x5000#16) ∧
    decode (.command 0b00100000001000000000#20) = .instr (.setGain 0x0200#16) ∧
    decode (.command 0b00110000000100000000#20) = .instr (.setMode 0x0100#16) ∧
    decode (.command 0b01000000000011000000#20) = .instr (.setDataRate 0x00C0#16) ∧
    decode (.command 0b01010000000000000000#20) = .instr .commit ∧
    decode (.command 0b01100000000000000000#20) = .instr .refresh ∧
    decode (.command 0b01110000000000000000#20) = .instr .readSample ∧
    decode (.command 0b10001111111111111111#20) = .instr (.toVolts 0xFFFF#16) := by decide

/-- R72. -/
theorem test_decode_rejects_commands :
    decode (.command 0b10010000000000000000#20) = .rejected .reservedOp ∧
    decode (.command 0b11111111111111111111#20) = .rejected .reservedOp ∧
    decode (.command 0b01010000000000000001#20) = .rejected .operandNotZero ∧
    decode (.command 0b01101000000000000000#20) = .rejected .operandNotZero ∧
    decode (.command 0b00000000000010000000#20) = .rejected .addressTooWide ∧
    decode (.command 0b00001000000001001000#20) = .rejected .addressTooWide := by decide

/-- R66, R67, R68: pointer byte first, then the high byte, then the low byte. -/
theorem test_decode_frames :
    decode (.writeFrame 0b000000011001001111000011#24) = .instr (.regWrite 0x93C3#16) ∧
    decode (.readFrame 0b00000001#8) = .instr .regReadConfig ∧
    decode (.readFrame 0b00000000#8) = .instr .regReadConversion ∧
    decode (.writeFrame 0b000000101001001111000011#24) = .rejected .neverIssued ∧
    decode (.writeFrame 0b000000001001001111000011#24) = .rejected .neverIssued ∧
    decode (.writeFrame 0b000001001001001111000011#24) = .rejected .undefinedPointer ∧
    decode (.readFrame 0b00000010#8) = .rejected .neverIssued ∧
    decode (.readFrame 0b00000011#8) = .rejected .neverIssued ∧
    decode (.readFrame 0b00000100#8) = .rejected .undefinedPointer := by decide

/-- R55, R65. -/
theorem test_decode_layout : decode (.layout 0b1000010110000011#16) = .instr (.cfgWord 0x8583#16) := by decide

/-- R59. -/
theorem test_decode_mux :
    decode (.value .mux 0b0000000000000000#16) = .instr .muxDiff01 ∧
    decode (.value .mux 0b0001000000000000#16) = .instr .muxDiff03 ∧
    decode (.value .mux 0b0010000000000000#16) = .instr .muxDiff13 ∧
    decode (.value .mux 0b0011000000000000#16) = .instr .muxDiff23 ∧
    decode (.value .mux 0b0100000000000000#16) = .instr .muxSingle0 ∧
    decode (.value .mux 0b0101000000000000#16) = .instr .muxSingle1 ∧
    decode (.value .mux 0b0110000000000000#16) = .instr .muxSingle2 ∧
    decode (.value .mux 0b0111000000000000#16) = .instr .muxSingle3 ∧
    decode (.value .mux 0b1000000000000000#16) = .rejected .notInEnumeration := by decide

/-- R60, with the two reserved codes. -/
theorem test_decode_pga :
    decode (.value .pga 0b0000000000000000#16) = .instr .pga6144 ∧
    decode (.value .pga 0b0000001000000000#16) = .instr .pga4096 ∧
    decode (.value .pga 0b0000010000000000#16) = .instr .pga2048 ∧
    decode (.value .pga 0b0000011000000000#16) = .instr .pga1024 ∧
    decode (.value .pga 0b0000100000000000#16) = .instr .pga0512 ∧
    decode (.value .pga 0b0000101000000000#16) = .instr .pga0256 ∧
    decode (.value .pga 0b0000110000000000#16) = .rejected .notInEnumeration ∧
    decode (.value .pga 0b0000111000000000#16) = .rejected .notInEnumeration := by decide

/-- R61. -/
theorem test_decode_mode :
    decode (.value .mode 0b0000000000000000#16) = .instr .modeContinuous ∧
    decode (.value .mode 0b0000000100000000#16) = .instr .modeSingleShot ∧
    decode (.value .mode 0b0000000000000001#16) = .rejected .notInEnumeration := by decide

/-- R62. -/
theorem test_decode_rate :
    decode (.value .dr 0b0000000000000000#16) = .instr .rate8 ∧
    decode (.value .dr 0b0000000000100000#16) = .instr .rate16 ∧
    decode (.value .dr 0b0000000001000000#16) = .instr .rate32 ∧
    decode (.value .dr 0b0000000001100000#16) = .instr .rate64 ∧
    decode (.value .dr 0b0000000010000000#16) = .instr .rate128 ∧
    decode (.value .dr 0b0000000010100000#16) = .instr .rate250 ∧
    decode (.value .dr 0b0000000011000000#16) = .instr .rate475 ∧
    decode (.value .dr 0b0000000011100000#16) = .instr .rate860 ∧
    decode (.value .dr 0b0000000011100001#16) = .rejected .notInEnumeration := by decide

/-- R58: the status bit alone decides, whatever the other bits are. -/
theorem test_decode_status :
    decode (.statusWritten 0b1000000000000000#16) = .instr .statusStart ∧
    decode (.statusWritten 0b0111111111111111#16) = .rejected .noStart ∧
    decode (.statusRead 0b0001001111000011#16) = .instr .statusBusy ∧
    decode (.statusRead 0b1001001111000011#16) = .instr .statusReady := by decide

/-- The opcode table's numbers: one row of each width, and log 15's reading of a frame's number. -/
theorem test_decode_table_words :
    decodeTableWord 24 0x00048 = some (.initialise 0x0048#16) ∧
    decodeTableWord 24 0x81234 = some (.toVolts 0x1234#16) ∧
    decodeTableWord 24 0x90000 = none ∧
    decodeTableWord 8 0x01 = some .regReadConfig ∧
    decodeTableWord 8 0x00 = some .regReadConversion ∧
    decodeTableWord 16 0x0000 = some .muxDiff01 ∧
    decodeTableWord 16 0x3000 = some .muxDiff23 ∧
    decodeTableWord 16 0x0A00 = some .pga0256 ∧
    decodeTableWord 16 0x0100 = some .modeSingleShot ∧
    decodeTableWord 16 0x00E0 = some .rate860 ∧
    decodeTableWord 16 0x8000 = some .statusStart ∧
    decodeTableWord 16 0x8583 = some (.cfgWord 0x8583#16) := by decide

/-! ### Setters (95_test_vectors.md 2.1) -/

theorem test_set_input_mux_isolated :
    after (exec (.setInputMux 0x5000#16) (bound 0xFFFF#16 0x0583#15 false .ok))
      (fun t => mirror t == some 0xDFFF#16 && t.sync == .dirty && t.err == .ok && t.trace == []) = true := by decide

theorem test_set_input_mux_rejects_status_bit :
    after (exec (.setInputMux 0x8000#16) (bound 0x8583#16 0x0583#15 false .ok))
      (fun t => mirror t == some 0x8583#16 && t.sync == .clean && t.err == .invalidFieldValue) = true := by decide

theorem test_set_gain_isolated :
    after (exec (.setGain 0x0A00#16) (bound 0xFFFF#16 0x0583#15 false .ok))
      (fun t => mirror t == some 0xFBFF#16 && t.sync == .dirty && t.err == .ok) = true := by decide

theorem test_set_gain_rejects_reserved_code :
    after (exec (.setGain 0x0C00#16) (bound 0x8583#16 0x0583#15 false .ok))
      (fun t => mirror t == some 0x8583#16 && t.sync == .clean && t.err == .invalidFieldValue) = true := by decide

theorem test_set_mode_same_value_dirties :
    after (exec (.setMode 0x0100#16) (bound 0x8583#16 0x0583#15 false .ok))
      (fun t => mirror t == some 0x8583#16 && t.sync == .dirty && t.err == .ok) = true := by decide

theorem test_set_mode_rejects_unshifted :
    after (exec (.setMode 0x0001#16) (bound 0x8583#16 0x0583#15 false .ok))
      (fun t => mirror t == some 0x8583#16 && t.err == .invalidFieldValue) = true := by decide

theorem test_set_data_rate_clears :
    after (exec (.setDataRate 0x0000#16) (bound 0xFFFF#16 0x0583#15 false .ok))
      (fun t => mirror t == some 0xFF1F#16 && t.sync == .dirty && t.err == .ok) = true := by decide

theorem test_set_data_rate_rejects_comparator_bit :
    after (exec (.setDataRate 0x00E1#16) (bound 0x8583#16 0x0583#15 false .ok))
      (fun t => mirror t == some 0x8583#16 && t.err == .invalidFieldValue) = true := by decide

/-- Every legal value from 0x8583, in the table's order. -/
theorem test_value_rows_from_default :
    ([(Instr.muxDiff01, 0x8583#16), (.muxDiff03, 0x9583#16), (.muxDiff13, 0xA583#16), (.muxDiff23, 0xB583#16),
      (.muxSingle0, 0xC583#16), (.muxSingle1, 0xD583#16), (.muxSingle2, 0xE583#16), (.muxSingle3, 0xF583#16),
      (.pga6144, 0x8183#16), (.pga4096, 0x8383#16), (.pga2048, 0x8583#16), (.pga1024, 0x8783#16), (.pga0512, 0x8983#16),
      (.pga0256, 0x8B83#16), (.modeContinuous, 0x8483#16), (.modeSingleShot, 0x8583#16), (.rate8, 0x8503#16),
      (.rate16, 0x8523#16), (.rate32, 0x8543#16), (.rate64, 0x8563#16), (.rate128, 0x8583#16), (.rate250, 0x85A3#16),
      (.rate475, 0x85C3#16), (.rate860, 0x85E3#16)].all fun p =>
        after (exec p.1 (bound 0x8583#16 0x0583#15 false .ok))
          (fun t => mirror t == some p.2 && t.sync == .dirty && t.err == .ok)) = true := by decide

/-! ### Register I/O (95_test_vectors.md 2.2) -/

/-- IO1, byte order included. -/
theorem test_initialise_default :
    after (exec (.initialise 0x0048#16) (unbound 0x0583#15 false .ok))
      (fun t => t.handle == some { addr := 0x48#7, cfg := 0x8583#16 } && t.sync == .clean && t.err == .ok &&
        t.trace == [.read 0x48#7 [0x01#8] (some (0x85#8, 0x83#8))]) = true := by decide

/-- IO3. -/
theorem test_initialise_fails :
    after (exec (.initialise 0x0048#16) (unbound 0x0583#15 false .transportError))
      (fun t => t.inited == false && t.sync == .dirty && t.err == .transportError) = true := by decide

/-- IO5. -/
theorem test_commit_starts :
    after (exec .commit (bound 0x93C3#16 0x0583#15 false .ok))
      (fun t => mirror t == some 0x93C3#16 && t.sync == .clean && t.err == .ok && t.dev.config == 0x13C3#15 && t.dev.busy &&
        t.trace == [.write 0x48#7 [0x01#8, 0x93#8, 0xC3#8] .ok]) = true := by decide

/-- IO7: the device's word is the draw 0x0583, its busy bit the draw 1. -/
theorem test_commit_fails :
    after (exec .commit (bound 0x93C3#16 0x13C3#15 false .transportError))
      (fun t => mirror t == some 0x93C3#16 && t.sync == .dirty && t.err == .transportError && t.dev.config == 0x0583#15 &&
        t.dev.busy) = true := by decide

/-- IO9. -/
theorem test_refresh_discards :
    after (exec .refresh (bound 0x9583#16 0x0583#15 false .ok))
      (fun t => mirror t == some 0x8583#16 && t.sync == .clean && t.err == .ok &&
        t.trace == [.read 0x48#7 [0x01#8] (some (0x85#8, 0x83#8))]) = true := by decide

/-- IO12 with s = 1. -/
theorem test_refresh_continuous_draws_status :
    after (exec .refresh (bound 0x12C3#16 0x12C3#15 false .ok)) (fun t => mirror t == some 0x92C3#16) = true := by decide

/-- R66, R42: no start bit, so an idle single-shot device stays idle. -/
theorem test_reg_write_no_start :
    after (exec (.regWrite 0x13C3#16) (bound 0x8583#16 0x0583#15 false .ok))
      (fun t => t.dev.config == 0x13C3#15 && t.dev.busy == false && mirror t == some 0x8583#16 &&
        t.trace == [.write 0x48#7 [0x01#8, 0x13#8, 0xC3#8] .ok]) = true := by decide

/-- R67, R43: busy reads 0 in bit 15. -/
theorem test_reg_read_config_busy :
    after (exec .regReadConfig (bound 0x8583#16 0x13C3#15 true .ok))
      (fun t => t.trace == [.read 0x48#7 [0x01#8] (some (0x13#8, 0xC3#8))] && mirror t == some 0x8583#16) = true := by decide

/-- R67, R44. -/
theorem test_reg_read_conversion :
    after (exec .regReadConversion (bound 0x8583#16 0x13C3#15 true .ok))
      (fun t => t.trace == [.read 0x48#7 [0x00#8] (some (0x07#8, 0x77#8))] && t.sample == none && t.dev.busy) = true := by
  decide

/-! ### ReadSample and the status values (95_test_vectors.md 2.3) -/

/-- RS10, first transaction: the trigger word is 0x9583 whatever bit 15 was. -/
theorem test_read_sample_trigger_word :
    after (exec .readSample (bound 0x1583#16 0x0583#15 false .ok))
      (fun t => t.seq == .triggered && mirror t == some 0x9583#16 && t.sync == .clean && t.dev.config == 0x1583#15 &&
        t.dev.busy && t.trace == [.write 0x48#7 [0x01#8, 0x95#8, 0x83#8] .ok]) = true := by decide

/-- RS9: the bound is tested before a third Refresh. -/
theorem test_read_sample_poll_timeout :
    after (exec .readSample { sampling .polling true .ok with maxPoll := some 2, polls := 2 })
      (fun t => t.err == .pollTimeout && t.seq == .idle && t.trace == []) = true := by decide

/-- R58, R91 (log 12). -/
theorem test_status_start_triggers :
    after (exec .statusStart (bound 0x13C3#16 0x13C3#15 false .ok))
      (fun t => mirror t == some 0x93C3#16 && t.dev.busy && t.seq == .idle && t.err == .ok) = true := by decide

/-- R92 (log 13). -/
theorem test_status_busy_keeps_polling :
    after (exec .statusBusy (sampling .polling true .ok)) (fun t => t.seq == .polling) = true := by decide

/-- R92 (log 13). -/
theorem test_status_ready_ends_polling :
    after (exec .statusReady (sampling .polling false .ok)) (fun t => t.seq == .ready) = true := by decide

/-! ### ToVolts (95_test_vectors.md 2.4) -/

/-- g = 0, raw 0x1234: the row where the two renderings differ. -/
theorem test_to_volts_binary32 :
    after (exec (.toVolts 0x1234#16) (bound 0x8183#16 0x0583#15 false .ok))
      (fun t => t.volts == some { exact := 8737500000, float := .binary32 0x3F5FAE15#32 } && t.err == .ok) = true := by
  decide

/-- g = 1, raw 0x8001, in binary64 rounded once at the end. -/
theorem test_to_volts_binary64 :
    after (exec (.toVolts 0x8001#16) { bound 0x93C3#16 0x13C3#15 false .ok with float := .binary64Then32 })
      (fun t => t.volts == some { exact := -40958750000, float := .binary32 0xC0831168#32 }) = true := by decide

/-! ### Steps -/

/-- 95_test_vectors.md 2.5: command 0x7FFFF is malformed, and that is found before the missing handle (R126). -/
theorem test_step_malformed_before_handle :
    after (step (facing (.command 0x7FFFF#20) (unbound 0x0583#15 false .ok)))
      (fun t => t.err == .illegalCommand && t.port == []) = true := by decide

/-- R126: the handle check comes before the operand check. -/
theorem test_step_handle_before_operand :
    after (step (facing (.command 0x20C00#20) (unbound 0x0583#15 false .ok))) (fun t => t.err == .noHandle) = true := by
  decide

/-- The first step after reset runs what is placed. -/
theorem test_step_runs_placed_word :
    after (step (State.reset.withFetchWord 24 0x11000)) (fun t => t.err == .noHandle && t.port == []) = true := by decide

/-- A row that is no command runs from the bench, and the command port stays as it is (log 21). -/
theorem test_step_runs_row_on_its_own :
    after (step ({ bound 0x8583#16 0x0583#15 false .ok with port := [0x60000#20] }.withFetchWord 16 0x0A00))
      (fun t => mirror t == some 0x8B83#16 && t.bench == [] && t.port == [0x60000#20]) = true := by decide

/-- 20_memory.md R44: a threshold register is never read. -/
theorem test_step_refuses_threshold_read :
    refusedAs (step (facing (.readFrame 0x02#8) (bound 0x8583#16 0x0583#15 false .ok))) .neverIssued = true := by decide

/-- R102. -/
theorem test_step_conv_done :
    after (step { sampling .polling true .ok with inputs := script .ok [.turn .convDone] })
      (fun t => t.dev.conv == 0x1234#16 && t.dev.busy == false && t.seq == .polling) = true := by decide

/-! ### Witnesses: each theorem meets the hypotheses of the obligation it is named after, clause by clause -/

theorem witness_decode_encode_round_trip :
    (Instr.initialise 0x007F#16).WellFormed ∧ (Instr.setGain 0xFFFF#16).WellFormed ∧ Instr.rate860.WellFormed := by decide

theorem witness_decoded_word_is_encoding :
    (∀ w, Item.command 0x00048#20 ≠ .statusWritten w ∧ Item.command 0x00048#20 ≠ .statusRead w) ∧
      decode (.command 0x00048#20) = .instr (.initialise 0x0048#16) :=
  ⟨fun _ => ⟨nofun, nofun⟩, by decide⟩

/-- An idle block with its turn and this command presented. -/
def presented (w : BitVec 20) : State := facing (.command w) (bound 0x8583#16 0x0583#15 false .ok)

/-- An idle block with its turn and this row before it. -/
def aside (it : Item) : State := facing it (bound 0x8583#16 0x0583#15 false .ok)

theorem witness_step_runs_decoded_instruction :
    ((presented 0x11000#20).seq = .idle ∧ (presented 0x11000#20).inputs.event = .turn .block ∧
      (presented 0x11000#20).bench = [] ∧ (presented 0x11000#20).port = 0x11000#20 :: [] ∧
      decode (.command 0x11000#20) = .instr (.setInputMux 0x1000#16)) ∧
    (aside (.readFrame 0x01#8)).seq = .idle ∧ (aside (.readFrame 0x01#8)).inputs.event = .turn .block ∧
      (aside (.readFrame 0x01#8)).bench = .readFrame 0x01#8 :: [] ∧
      decode (.readFrame 0x01#8) = .instr .regReadConfig := by
  decide

theorem witness_step_continues_read_sample :
    ({ sampling .polling true .ok with inputs := script .ok [.turn .block] }).seq ≠ .idle ∧
      ({ sampling .polling true .ok with inputs := script .ok [.turn .block] }).inputs.event = .turn .block := by decide

/-- One word for each of the three ways, at the edges of its range. -/
theorem witness_malformed_command_is_illegal :
    (∀ w, (presented w).seq = .idle ∧ (presented w).bench = [] ∧ (presented w).port = w :: [] ∧
      (presented w).inputs.event = .turn .block) ∧
      (9 ≤ ((0x90000#20 : BitVec 20) >>> 16).toNat ∧ 9 ≤ ((0xFFFFF#20 : BitVec 20) >>> 16).toNat) ∧
      (5 ≤ ((0x50001#20 : BitVec 20) >>> 16).toNat ∧ ((0x50001#20 : BitVec 20) >>> 16).toNat ≤ 7 ∧
        (0x50001#20 : BitVec 20).extractLsb' 0 16 ≠ 0#16) ∧
      (5 ≤ ((0x78000#20 : BitVec 20) >>> 16).toNat ∧ ((0x78000#20 : BitVec 20) >>> 16).toNat ≤ 7 ∧
        (0x78000#20 : BitVec 20).extractLsb' 0 16 ≠ 0#16) ∧
      (((0x00080#20 : BitVec 20) >>> 16).toNat = 0 ∧ (0x00080#20 : BitVec 20).extractLsb' 7 9 ≠ 0#9) ∧
      (((0x0FFFF#20 : BitVec 20) >>> 16).toNat = 0 ∧ (0x0FFFF#20 : BitVec 20).extractLsb' 7 9 ≠ 0#9) :=
  ⟨fun _ => ⟨rfl, rfl, rfl, rfl⟩, by decide, by decide, by decide, by decide, by decide⟩

/-- Frames at both edges of each range of pointer bytes, and a step that is no device reset. -/
theorem witness_pointer_map_is_closed :
    (∀ w, (aside (.writeFrame w)).seq = .idle ∧ (aside (.writeFrame w)).inputs.event = .turn .block ∧
      (aside (.writeFrame w)).bench = .writeFrame w :: []) ∧
    (0x0093C3#24 : BitVec 24).extractLsb' 16 8 ≠ 0x01#8 ∧ (0x0293C3#24 : BitVec 24).extractLsb' 16 8 ≠ 0x01#8 ∧
    (0x0393C3#24 : BitVec 24).extractLsb' 16 8 ≠ 0x01#8 ∧ (0x0493C3#24 : BitVec 24).extractLsb' 16 8 ≠ 0x01#8 ∧
    (∀ w, (aside (.readFrame w)).seq = .idle ∧ (aside (.readFrame w)).inputs.event = .turn .block ∧
      (aside (.readFrame w)).bench = .readFrame w :: []) ∧
    2 ≤ (0x02#8 : Byte).toNat ∧ 2 ≤ (0x03#8 : Byte).toNat ∧ 2 ≤ (0x04#8 : Byte).toNat ∧
    ∃ t, step (presented 0x50000#20) = .next t ∧ (presented 0x50000#20).inputs.event ≠ .deviceReset :=
  ⟨fun _ => ⟨rfl, rfl, rfl⟩, by decide, by decide, by decide, by decide, fun _ => ⟨rfl, rfl, rfl⟩, by decide, by decide,
    by decide, _, rfl, by decide⟩

theorem witness_set_input_mux_effect :
    (unbound 0x0583#15 false .ok).handle = none ∧
      (bound 0xFFFF#16 0x0583#15 false .ok).handle = some { addr := 0x48#7, cfg := 0xFFFF#16 } ∧
      (0x8000#16 : Word) &&& 0x8FFF#16 ≠ 0#16 ∧ (0x0001#16 : Word) &&& 0x8FFF#16 ≠ 0#16 ∧
      (0x7000#16 : Word) &&& 0x8FFF#16 = 0#16 ∧ (0x0000#16 : Word) &&& 0x8FFF#16 = 0#16 := by decide

theorem witness_set_gain_effect :
    (unbound 0x0583#15 false .ok).handle = none ∧
      (bound 0xFFFF#16 0x0583#15 false .ok).handle = some { addr := 0x48#7, cfg := 0xFFFF#16 } ∧
      (0x1000#16 : Word) &&& 0xF1FF#16 ≠ 0#16 ∧ (0x0100#16 : Word) &&& 0xF1FF#16 ≠ 0#16 ∧
      ((0x0E00#16 : Word) &&& 0xF1FF#16 ≠ 0#16 ∨ (0x0E00#16 : Word) = 0x0C00#16 ∨ (0x0E00#16 : Word) = 0x0E00#16) ∧
      ((0x0000#16 : Word) &&& 0xF1FF#16 = 0#16 ∧ (0x0000#16 : Word) ≠ 0x0C00#16 ∧ (0x0000#16 : Word) ≠ 0x0E00#16) ∧
      ((0x0A00#16 : Word) &&& 0xF1FF#16 = 0#16 ∧ (0x0A00#16 : Word) ≠ 0x0C00#16 ∧ (0x0A00#16 : Word) ≠ 0x0E00#16) := by
  decide

theorem witness_set_mode_effect :
    (unbound 0x0583#15 false .ok).handle = none ∧
      (bound 0xFFFF#16 0x0583#15 false .ok).handle = some { addr := 0x48#7, cfg := 0xFFFF#16 } ∧
      (0x0200#16 : Word) &&& 0xFEFF#16 ≠ 0#16 ∧ (0x0080#16 : Word) &&& 0xFEFF#16 ≠ 0#16 ∧
      (0x0100#16 : Word) &&& 0xFEFF#16 = 0#16 ∧ (0x0000#16 : Word) &&& 0xFEFF#16 = 0#16 := by decide

theorem witness_set_data_rate_effect :
    (unbound 0x0583#15 false .ok).handle = none ∧
      (bound 0xFFFF#16 0x0583#15 false .ok).handle = some { addr := 0x48#7, cfg := 0xFFFF#16 } ∧
      (0x0100#16 : Word) &&& 0xFF1F#16 ≠ 0#16 ∧ (0x0010#16 : Word) &&& 0xFF1F#16 ≠ 0#16 ∧
      (0x00E0#16 : Word) &&& 0xFF1F#16 = 0#16 ∧ (0x0000#16 : Word) &&& 0xFF1F#16 = 0#16 := by decide

/-- No handle; a handle; and for each field a value outside its enumeration. -/
theorem witness_field_value_rows_select_value :
    (unbound 0x0583#15 false .ok).handle = none ∧
    (bound 0xFFFF#16 0x0583#15 false .ok).handle = some { addr := 0x48#7, cfg := 0xFFFF#16 } ∧
    ∀ p ∈ [(Field.mux, 0x8000#16), (.pga, 0x0C00#16), (.mode, 0x0200#16), (.dr, 0x0010#16)],
      (aside (.value p.1 p.2)).seq = .idle ∧ (aside (.value p.1 p.2)).inputs.event = .turn .block ∧
        (aside (.value p.1 p.2)).bench = .value p.1 p.2 :: [] ∧ p.1.legal p.2 = false := by decide

/-- For each field: its largest legal operand, and the setter that takes it. -/
theorem witness_setter_laws :
    ∀ p ∈ [(Field.mux, 0x7000#16), (.pga, 0x0A00#16), (.mode, 0x0100#16), (.dr, 0x00E0#16)],
      (bound 0x0000#16 0x0583#15 false .ok).handle = some { addr := 0x48#7, cfg := 0x0000#16 } ∧ p.1.legal p.2 = true ∧
        after (exec (p.1.setter p.2) (bound 0x0000#16 0x0583#15 false .ok)) (fun t => mirror t == some p.2) = true := by
  decide

theorem witness_setter_read_back_and_isolation :
    ∃ t, (bound 0xFFFF#16 0x0583#15 false .ok).handle = some { addr := 0x48#7, cfg := 0xFFFF#16 } ∧
      Field.pga.legal 0x0A00#16 = true ∧
      exec (Field.pga.setter 0x0A00#16) (bound 0xFFFF#16 0x0583#15 false .ok) = .next t := ⟨_, by decide, by decide, rfl⟩

theorem witness_setter_last_write_wins :
    ∃ t, (bound 0x8583#16 0x0583#15 false .ok).handle = some { addr := 0x48#7, cfg := 0x8583#16 } ∧
      Field.pga.legal 0x0200#16 = true ∧ Field.pga.legal 0x0A00#16 = true ∧
      exec (Field.pga.setter 0x0200#16) (bound 0x8583#16 0x0583#15 false .ok) = .next t :=
  ⟨_, by decide, by decide, by decide, rfl⟩

theorem witness_setters_of_two_fields_commute :
    Field.mux ≠ Field.dr ∧
      (bound 0x8583#16 0x0583#15 false .ok).handle = some { addr := 0x48#7, cfg := 0x8583#16 } ∧
      Field.mux.legal 0x1000#16 = true ∧ Field.dr.legal 0x00C0#16 = true := by decide

theorem witness_setter_sequences_keep_status_and_comparator :
    (bound 0x801F#16 0x0583#15 false .ok).handle = some { addr := 0x48#7, cfg := 0x801F#16 } := by decide

theorem witness_initialize_binds_handle :
    (unbound 0x0583#15 false .ok).inputs.answer = .ok ∧ (unbound 0x12C3#15 true .ok).inputs.answer = .ok := by decide

theorem witness_initialize_failure_keeps_handle :
    (bound 0x8583#16 0x0583#15 false .transportError).inputs.answer = .transportError ∧ (0x0080#16 : Word) >>> 7 ≠ 0#16 := by
  decide

/-- Both answers, with a start, with no start, and when continuous mode is left. -/
theorem witness_commit_effect :
    (∀ s ∈ [bound 0x93C3#16 0x0583#15 false .ok, bound 0x13C3#16 0x0583#15 true .ok, bound 0x13C3#16 0x12C3#15 false .ok],
      s.inited = true ∧ s.inputs.answer = .ok) ∧
      (bound 0x93C3#16 0x0583#15 false .transportError).inited = true ∧
      (bound 0x93C3#16 0x0583#15 false .transportError).inputs.answer = .transportError := by decide

theorem witness_refresh_effect :
    (∀ s ∈ [bound 0x93C3#16 0x0583#15 false .ok, bound 0x13C3#16 0x0583#15 true .ok, bound 0x13C3#16 0x12C3#15 false .ok],
      s.inited = true ∧ s.inputs.answer = .ok) ∧
      (bound 0x93C3#16 0x0583#15 false .transportError).inited = true ∧
      (bound 0x93C3#16 0x0583#15 false .transportError).inputs.answer = .transportError := by decide

/-- The three pairs, each with a concrete middle and end. -/
theorem witness_commit_refresh_pair_laws :
    (∃ t u, mirror (bound 0x93C3#16 0x0583#15 false .ok) = some 0x93C3#16 ∧ t.err = .ok ∧ u.err = .ok ∧
      (0x93C3#16 : Word).getLsbD 8 = true ∧ exec .commit (bound 0x93C3#16 0x0583#15 false .ok) = .next t ∧
      exec .refresh t = .next u) ∧
    (∃ t u, (bound 0x93C3#16 0x0583#15 false .ok).dev.config.getLsbD 8 = true ∧ t.err = .ok ∧ u.err = .ok ∧
      exec .refresh (bound 0x93C3#16 0x0583#15 false .ok) = .next t ∧ exec .commit t = .next u) ∧
    (∃ t u, t.err = .ok ∧ u.err = .ok ∧ exec .refresh (bound 0x12C3#16 0x12C3#15 false .ok) = .next t ∧
      exec .refresh t = .next u) :=
  ⟨⟨_, _, by decide, rfl, rfl, by decide, rfl, rfl⟩, ⟨_, _, by decide, rfl, rfl, rfl, rfl⟩, ⟨_, _, rfl, rfl, rfl, rfl⟩⟩

theorem witness_write_frame_effect :
    (unbound 0x0583#15 false .ok).handle = none ∧
    (bound 0x8583#16 0x12C3#15 false .ok).handle = some { addr := 0x48#7, cfg := 0x8583#16 } ∧
      (bound 0x8583#16 0x12C3#15 false .ok).inputs.answer = .ok ∧
      (bound 0x8583#16 0x12C3#15 false .transportError).inputs.answer = .transportError := by decide

theorem witness_read_frames_effect :
    (unbound 0x0583#15 false .ok).handle = none ∧
    (bound 0x8583#16 0x0583#15 true .transportError).inited = true ∧
    (bound 0x8583#16 0x0583#15 true .transportError).inputs.answer = .transportError ∧
    (bound 0x8583#16 0x0583#15 true .ok).handle = some { addr := 0x48#7, cfg := 0x8583#16 } ∧
      (bound 0x8583#16 0x0583#15 true .ok).inputs.answer = .ok := by decide

theorem witness_no_handle_before_initialize : (unbound 0x0583#15 false .ok).handle = none := by decide

theorem witness_read_sample_triggers_conversion :
    (sampling .idle false .ok).handle = some { addr := 0x48#7, cfg := 0x93C3#16 } ∧ (sampling .idle false .ok).seq = .idle ∧
      (0x93C3#16 : Word).getLsbD 8 = true ∧ (sampling .idle false .ok).inputs.answer = .ok ∧
      (sampling .idle false .transportError).inited = true ∧ (sampling .idle false .transportError).seq = .idle ∧
      (sampling .idle false .transportError).inputs.answer = .transportError := by decide

theorem witness_read_sample_silent_transitions :
    ((bound 0x92C3#16 0x12C3#15 false .ok).handle = some { addr := 0x48#7, cfg := 0x92C3#16 } ∧
        (bound 0x92C3#16 0x12C3#15 false .ok).seq = .idle ∧ (0x92C3#16 : Word).getLsbD 8 = false) ∧
      ((sampling .triggered true .ok).inited = true ∧ (sampling .triggered true .ok).seq = .triggered) := by decide

/-- At the bound, with a busy and a ready device below it, and with a transport that fails. -/
theorem witness_poll_refreshes_then_tests_status :
    (∀ s ∈ [sampling .polling true .ok, sampling .polling false .ok, sampling .polling true .transportError],
      s.inited = true ∧ s.seq = .polling ∧ s.maxPoll ≠ some s.polls) ∧
      (sampling .polling true .ok).inputs.answer = .ok ∧
      (sampling .polling true .transportError).inputs.answer = .transportError ∧
      ({ sampling .polling true .ok with maxPoll := some 2, polls := 2 }).maxPoll =
        some ({ sampling .polling true .ok with maxPoll := some 2, polls := 2 }).polls := by decide

theorem witness_ready_reads_conversion :
    (sampling .ready false .ok).handle = some { addr := 0x48#7, cfg := 0x93C3#16 } ∧ (sampling .ready false .ok).seq = .ready ∧
      (sampling .ready false .ok).inputs.answer = .ok ∧ (sampling .ready false .transportError).seq = .ready ∧
      (sampling .ready false .transportError).inputs.answer = .transportError := by decide

/-- The vector RS1 (one busy poll, result 0x1234) with `MAX_POLL` = 2, the least bound that allows it. -/
def singleShotRun : State :=
  { bound 0x93C3#16 0x13C3#15 false .ok with
    maxPoll := some 2
    port := [0x70000#20]
    inputs :=
      { script .ok [.turn .convDone, .turn .block, .turn .contUpdate, .turn .convDone, .turn .block, .turn .block] with
        answers := [.ok, .ok, .ok, .ok] } }

/-- RS1 with turns of disabled agents among the block's, and RS2 with ConvDone right after the trigger. -/
theorem witness_single_shot_read_sample_run :
    (singleShotRun.handle = some { addr := 0x48#7, cfg := 0x93C3#16 } ∧ singleShotRun.seq = .idle ∧
      (0x93C3#16 : Word).getLsbD 8 = true ∧ singleShotRun.dev.busy = false ∧ singleShotRun.dev.config.getLsbD 8 = true ∧
      Agent.convDone ∉ [Agent.block, .contUpdate] ∧
      [Agent.block, .block].length = (if [Agent.block, .contUpdate] = [] then 3 else 2) ∧
      (∀ m, singleShotRun.maxPoll = some m → [Agent.block, .contUpdate].length - 1 < m) ∧
      singleShotRun.bench = [] ∧ singleShotRun.port = 0x70000#20 :: [] ∧
      singleShotRun.inputs.events =
        (Agent.convDone :: [Agent.block, .contUpdate] ++ Agent.convDone :: [Agent.block, .block]).map .turn ++ [] ∧
      singleShotRun.inputs.answers = List.replicate ([Agent.block, .contUpdate].length - 1 + 3) .ok ++ [] ∧
      singleShotRun.inputs.words = 0x1234#16 :: [0x0001#16, 0x0002#16, 0x0003#16]) ∧
    [Agent.block, .block, .block].length = (if ([] : List Agent) = [] then 3 else 2) ∧
      (script .ok [.turn .block, .turn .convDone, .turn .block, .turn .block, .turn .block]).events =
        (Agent.block :: ([] : List Agent) ++ Agent.convDone :: [Agent.block, .block, .block]).map .turn ++ [] :=
  ⟨⟨rfl, rfl, by decide, rfl, by decide, by decide, by decide, by rintro m ⟨⟩; decide, rfl, rfl, rfl, rfl, rfl⟩,
    by decide, rfl⟩

/-- The vector RS4 with two ContUpdate steps between the two turns of the block. -/
def continuousRun : State :=
  { bound 0x92C3#16 0x12C3#15 false .ok with
    port := [0x70000#20], inputs := script .ok [.turn .block, .turn .contUpdate, .turn .contUpdate, .turn .convDone] }

theorem witness_continuous_read_sample_run :
    ∃ u, continuousRun.handle = some { addr := 0x48#7, cfg := 0x92C3#16 } ∧ continuousRun.seq = .idle ∧
      (0x92C3#16 : Word).getLsbD 8 = false ∧ continuousRun.bench = [] ∧ continuousRun.port = 0x70000#20 :: [] ∧
      deviceTurns [.contUpdate, .contUpdate]
        { continuousRun with seq := .ready, port := [], inputs := continuousRun.inputs.dropEvent } = some u ∧
      u.dev.busy = false ∧ u.dev.conv = 0x0001#16 ∧
      continuousRun.inputs.events = (Agent.block :: [Agent.contUpdate, .contUpdate] ++ [Agent.convDone]).map .turn ++ [] ∧
      continuousRun.inputs.answers = .ok :: List.replicate 5 .ok :=
  ⟨_, by decide, by decide, by decide, by decide, by decide, rfl, by decide, by decide, by decide, by decide⟩

theorem witness_unbounded_poll_never_ends :
    let s := { sampling .polling true .ok with inputs := script .ok (List.replicate 6 (.turn .block)) }
    s.handle = some { addr := 0x48#7, cfg := 0x93C3#16 } ∧ s.seq = .polling ∧ s.maxPoll = none ∧
      s.dev.config.getLsbD 8 = true ∧ s.dev.busy = true ∧
      s.inputs.events = List.replicate 6 (.turn .block) ++ [] ∧ s.inputs.answers = List.replicate 6 .ok ++ [] := by decide

/-- Below the bound, at the bound, and in the two other states. -/
theorem witness_bounded_read_sample_progresses :
    ∀ s ∈ [{ sampling .polling true .ok with maxPoll := some 2 }, { sampling .polling true .ok with maxPoll := some 2, polls := 2 },
        { sampling .triggered true .ok with maxPoll := some 2 }, { sampling .ready false .ok with maxPoll := some 2 }],
      s.maxPoll = some 2 ∧ (s.seq = .polling → s.polls ≤ 2) ∧ s.seq ≠ .idle := by decide

theorem witness_device_steps_draw_conversion :
    let s := { sampling .polling true .ok with inputs := script .ok [.turn .convDone] }
    let r := { bound 0x92C3#16 0x12C3#15 false .ok with inputs := script .ok [.turn .contUpdate] }
    (s.inputs.event = .turn .convDone ∧ s.dev.busy = true) ∧
      (r.inputs.event = .turn .contUpdate ∧ r.dev.config.getLsbD 8 = false) := by decide

theorem witness_sleeping_device_has_no_step :
    ∀ a ∈ [Agent.block, .convDone, .contUpdate],
      let s := { bound 0x93C3#16 0x13C3#15 false .ok with inputs := script .ok [.turn a] }
      s.dev.config.getLsbD 8 = true ∧ s.dev.busy = false ∧ s.inputs.event = .turn a ∧ s.seq = .idle ∧
        s.bench = [] ∧ s.port = [] := by decide

theorem witness_status_start_triggers_conversion :
    (aside (.statusWritten 0x7FFF#16)).seq = .idle ∧ (aside (.statusWritten 0x7FFF#16)).inputs.event = .turn .block ∧
    (aside (.statusWritten 0x7FFF#16)).bench = .statusWritten 0x7FFF#16 :: [] ∧ (0x7FFF#16 : Word).getLsbD 15 = false ∧
    (unbound 0x0583#15 false .ok).handle = none ∧
    (bound 0x13C3#16 0x13C3#15 false .transportError).inited = true ∧
    (bound 0x13C3#16 0x13C3#15 false .transportError).inputs.answer = .transportError ∧
    (bound 0x13C3#16 0x13C3#15 false .ok).handle = some { addr := 0x48#7, cfg := 0x13C3#16 } ∧
      (bound 0x13C3#16 0x13C3#15 false .ok).inputs.answer = .ok := by decide

theorem witness_status_read_values_steer_poll :
    (sampling .polling false .ok).seq = .polling ∧ (sampling .ready false .ok).seq ≠ .polling := by decide

/-- The smallest and the largest gain code that ToVolts takes. -/
theorem witness_to_volts_exact_value :
    (bound 0x8183#16 0x0583#15 false .ok).handle = some { addr := 0x48#7, cfg := 0x8183#16 } ∧
      (0x8183#16 : Word) &&& 0x0E00#16 = 0x0000#16 ∧
      (bound 0x8A83#16 0x0583#15 false .ok).handle = some { addr := 0x48#7, cfg := 0x8A83#16 } ∧
      (0x8A83#16 : Word) &&& 0x0E00#16 = 0x0A00#16 := by decide

theorem witness_to_volts_reserved_gain :
    (bound 0x8D83#16 0x0583#15 false .ok).handle = some { addr := 0x48#7, cfg := 0x8D83#16 } ∧
      (0x8D83#16 : Word) &&& 0x0E00#16 = 0x0C00#16 ∧
      (bound 0x8F83#16 0x0583#15 false .ok).handle = some { addr := 0x48#7, cfg := 0x8F83#16 } ∧
      (0x8F83#16 : Word) &&& 0x0E00#16 = 0x0E00#16 := by decide

/-- Two mirrors of gain code 1 that differ in every other bit. -/
theorem witness_to_volts_reads_gain_only :
    ∃ t t', (bound 0x0200#16 0x0583#15 false .ok).handle = some { addr := 0x48#7, cfg := 0x0200#16 } ∧
      (bound 0xF3FF#16 0x13C3#15 true .ok).handle = some { addr := 0x48#7, cfg := 0xF3FF#16 } ∧
      (0x0200#16 : Word) &&& 0x0E00#16 = 0xF3FF#16 &&& 0x0E00#16 ∧
      (bound 0x0200#16 0x0583#15 false .ok).float = (bound 0xF3FF#16 0x13C3#15 true .ok).float ∧
      (bound 0x0200#16 0x0583#15 false .ok).volts = (bound 0xF3FF#16 0x13C3#15 true .ok).volts ∧
      exec (.toVolts 0x1234#16) (bound 0x0200#16 0x0583#15 false .ok) = .next t ∧
      exec (.toVolts 0x1234#16) (bound 0xF3FF#16 0x13C3#15 true .ok) = .next t' :=
  ⟨_, _, by decide, by decide, by decide, rfl, rfl, rfl, rfl⟩

/-- For ExactVoltsLaws and DefaultFloatWithinOneLsb: the first and the last gain code with a full-scale range; the ends of the raw range are ordered; -0x7FFF is 0x8001. -/
theorem witness_exact_volts :
    fullScale 0 = some 6144 ∧ fullScale 5 = some 256 ∧ (0x8000#16 : Word).toInt < (0x7FFF#16 : Word).toInt ∧
      (0x8001#16 : Word).toInt = -(0x7FFF#16 : Word).toInt := by decide

theorem witness_pure_operations_never_use_bus :
    ∀ i ∈ [Instr.setInputMux 0x1000#16, .setGain 0x1000#16, .setMode 0x1000#16, .setDataRate 0x1000#16, .toVolts 0x1000#16],
      after (exec i (bound 0x8583#16 0x0583#15 false .ok)) (fun _ => true) = true := by decide

theorem witness_one_bus_call_per_step :
    ∃ t, step (presented 0x50000#20) = .next t ∧ t.trace ≠ (presented 0x50000#20).trace := ⟨_, rfl, by decide⟩

theorem witness_every_step_keeps_bus_shapes :
    ∃ t, BusWellShaped (presented 0x50000#20) ∧ step (presented 0x50000#20) = .next t := ⟨_, by rfl, rfl⟩

/-- A Commit that changes the device's word, and a device reset that does. -/
theorem witness_device_config_changes_only_by_write :
    (∃ t, step (facing (.command 0x50000#20) (bound 0x93C3#16 0x0583#15 false .ok)) = .next t ∧
      t.dev.config ≠ (facing (.command 0x50000#20) (bound 0x93C3#16 0x0583#15 false .ok)).dev.config) ∧
    (∃ t, step { bound 0x93C3#16 0x13C3#15 false .ok with inputs := script .ok [.deviceReset] } = .next t ∧
      t.dev.config ≠ 0x13C3#15) :=
  ⟨⟨_, rfl, by decide⟩, ⟨_, rfl, by decide⟩⟩

/-- The conversion read of a ReadSample, a ToVolts, and a block reset that loses both results. -/
theorem witness_results_written_only_by_their_operation :
    (∃ t, step { sampling .ready false .ok with inputs := script .ok [.turn .block] } = .next t ∧ t.sample ≠ none) ∧
    (∃ t, step (presented 0x81234#20) = .next t ∧ t.volts ≠ (presented 0x81234#20).volts) ∧
    (∃ t, step { bound 0x93C3#16 0x13C3#15 false .ok with
        sample := some 0#16, volts := some { exact := 0, float := .other 0 }, inputs := script .ok [.blockReset] } = .next t ∧
      t.sample ≠ some 0#16 ∧ t.volts ≠ some { exact := 0, float := .other 0 }) :=
  ⟨⟨_, rfl, by decide⟩, ⟨_, rfl, by decide⟩, ⟨_, rfl, by decide, by decide⟩⟩

/-- IO15 (a second Initialize at 0x49), IO1 (a first one), and a block reset. -/
theorem witness_handle_made_only_by_initialize :
    (∃ t h', (presented 0x00049#20).handle = some { addr := 0x48#7, cfg := 0x8583#16 } ∧ t.handle = some h' ∧
      step (presented 0x00049#20) = .next t ∧ h'.addr ≠ 0x48#7) ∧
    (∃ t h', (facing (.command 0x00048#20) (unbound 0x0583#15 false .ok)).handle = none ∧ t.handle = some h' ∧
      step (facing (.command 0x00048#20) (unbound 0x0583#15 false .ok)) = .next t) ∧
    (∃ t, step { bound 0x93C3#16 0x13C3#15 false .ok with inputs := script .ok [.blockReset] } = .next t ∧
      (bound 0x93C3#16 0x13C3#15 false .ok).inited = true ∧ t.inited = false) :=
  ⟨⟨_, _, by decide, rfl, rfl, by decide⟩, ⟨_, _, by decide, rfl, rfl⟩, ⟨_, rfl, by decide, by decide⟩⟩

theorem witness_sync_steers_nothing : ∃ t, exec .commit (bound 0x93C3#16 0x13C3#15 false .ok) = .next t := ⟨_, rfl⟩

/-- A ReadSample in progress whose device is converting. -/
def polled : State := { sampling .polling true .ok with maxPoll := some 2, polls := 1, inputs := script .ok [.turn .block] }

theorem witness_every_step_keeps_sequencer_sound : ∃ t, SequencerSound polled ∧ step polled = .next t :=
  ⟨_, ⟨by decide, by decide, fun _ h => by cases h⟩, rfl⟩

theorem witness_every_step_keeps_poll_bound : ∃ t, PollBounded polled ∧ step polled = .next t :=
  ⟨_, by rintro m ⟨⟩; decide, rfl⟩

theorem witness_every_step_keeps_sync_truthful :
    ∃ t, OneWriter polled ∧ SyncTruthful polled ∧ step polled = .next t :=
  ⟨_, ⟨by decide, by decide⟩, fun _ => ⟨_, rfl, by decide⟩, rfl⟩

theorem witness_resets_are_independent :
    ({ polled with inputs := script .ok [.blockReset] }).inputs.event = .blockReset ∧
      ({ polled with inputs := script .ok [.deviceReset] }).inputs.event = .deviceReset := by decide

end Sys2Proof.Tests
end

section
/-! PROOFS. 00_scope.md: what a step of an idle block runs, and the row that is no instruction. -/

namespace Sys2Proof

/-- A command without an operand decodes only from the zero operand, and to itself (30_encoding.md R70). -/
theorem decodeBare_eq_instr_iff {i j : Instr} {v : Word} : decodeBare i v = .instr j ↔ v = 0#16 ∧ i = j := by
  unfold decodeBare
  split <;> simp [*]

/-- The nine operations of the block, those with an operand at `v` (00_scope.md R2). -/
def operations (v : Word) : List Instr :=
  [.initialise v, .setInputMux v, .setGain v, .setMode v, .setDataRate v, .commit, .refresh, .readSample, .toVolts v]

/-- A command word decodes to nothing but an operation on its operand bits (30_encoding.md R70). -/
theorem mem_operations_of_decodeCommand {w : BitVec 20} {i : Instr} (h : decodeCommand w = .instr i) :
    i ∈ operations (commandOperand w) := by
  unfold decodeCommand at h
  split at h
  case h_1 =>
    split at h
    · cases h; simp [operations]
    · cases h
  case h_6 | h_7 | h_8 =>
    obtain ⟨-, rfl⟩ := decodeBare_eq_instr_iff.mp h
    simp [operations]
  case h_10 => cases h
  all_goals cases h; simp [operations]

end Sys2Proof

namespace Sys2Proof.Machine

/-- The turn of an idle block before a presented item is that item's, in the state with the event used up and the item taken up. -/
theorem turn_of_presented {s : State} {it : Item} (hseq : s.seq = .idle) (hev : s.inputs.event = .turn .block)
    (hp : s.presented = some it) : turn s = itemTurn it s.dropEvent.taken := by
  have hp' : s.dropEvent.presented = some it := hp
  simp [turn, hev, eventTurn, blockTurn, hseq, hp']

/-- An idle block runs the instruction that the presented item decodes to (00_scope.md R8). -/
theorem step_of_presented_instr {s : State} {it : Item} {i : Instr} (hseq : s.seq = .idle)
    (hev : s.inputs.event = .turn .block) (hp : s.presented = some it) (hd : decode it = .instr i) :
    step s = exec i s.dropEvent.taken := by
  simp [step, turn_of_presented hseq hev hp, itemTurn, hd]

/-- With the bench empty, the head of the port is presented. -/
theorem presented_of_port {s : State} {w : BitVec 20} {rest : List (BitVec 20)} (hb : s.bench = []) (hq : s.port = w :: rest) :
    s.presented = some (.command w) := by
  simp [State.presented, hb, hq]

/-- A row on the bench is presented before the port. -/
theorem presented_of_bench {s : State} {it : Item} {rest : List Item} (hb : s.bench = it :: rest) : s.presented = some it := by
  simp [State.presented, hb]

/-- With the bench empty, the head of the port is taken up. -/
theorem taken_of_port {s : State} {w : BitVec 20} {rest : List (BitVec 20)} (hb : s.bench = []) (hq : s.port = w :: rest) :
    s.taken = { s with port := rest } := by
  simp [State.taken, hb, hq]

/-- A row on the bench is taken up, and the port stays. -/
theorem taken_of_bench {s : State} {it : Item} {rest : List Item} (hb : s.bench = it :: rest) :
    s.taken = { s with bench := rest } := by
  simp [State.taken, hb]

/-- Settles O7: the port's head and a row on the bench are each what is presented and taken up, and a command word decodes to an
operation only. -/
theorem stepRunsDecodedInstruction : Obligations.StepRunsDecodedInstruction := by
  intro s i hseq hev
  constructor
  · intro w rest hb hq hd
    refine ⟨⟨commandOperand w, mem_operations_of_decodeCommand hd⟩, ?_⟩
    rw [step_of_presented_instr hseq hev (presented_of_port hb hq) hd, taken_of_port (s := s.dropEvent) hb hq]
    rfl
  · intro it rest hb hd
    rw [step_of_presented_instr hseq hev (presented_of_bench hb) hd, taken_of_bench (s := s.dropEvent) hb]
    rfl

/-- The meaning of the layout row CFG_WORD is a refusal (log 14). -/
theorem execCfgWord_eq_refused (w : Word) (s : State) : execCfgWord w s = .refused .layoutDescriptor := rfl

/-- Settles O11: the dispatch hands CFG_WORD to its meaning, which refuses every word in every state. -/
theorem layoutRowIsRefused : Obligations.LayoutRowIsRefused := by
  intro w s
  exact execCfgWord_eq_refused w s

end Sys2Proof.Machine
end

section
/-! PROOFS. 10_state.md: when `SYNC` tells the truth, who writes the results and the handle, and what reset leaves. -/

namespace Sys2Proof.Machine

/-! ### `SYNC` tells the truth -/

/-- A Dirty `SYNC` claims nothing. -/
theorem syncTruthful_of_dirty {s : State} (h : s.sync = .dirty) : SyncTruthful s := by
  intro hc
  simp [h] at hc

/-- A mirror that agrees with the device makes either value of `SYNC` true. -/
theorem syncTruthful_of_agrees {s : State} {h : Handle} (hh : s.handle = some h) (hc : storedPart h.cfg = s.dev.config) :
    SyncTruthful s :=
  fun _ => ⟨h, hh, hc⟩

/-- `SyncTruthful` speaks of `SYNC`, the handle and `HW.CONFIG` only. -/
theorem SyncTruthful.congr {s t : State} (h : SyncTruthful s) (hs : t.sync = s.sync) (hh : t.handle = s.handle)
    (hc : t.dev.config = s.dev.config) : SyncTruthful t := by
  unfold SyncTruthful
  rw [hs, hh, hc]
  exact h

/-- Every instruction but the bare write frame keeps `SYNC` truthful: it leaves mirror, device and flag, or ends Dirty, or ends
with a mirror that was just written to the device or read from it. -/
theorem Effect.keeps_syncTruthful {i : Instr} {s t : State} (ht : Effect i s t) (hi : ∀ v, i ≠ .regWrite v)
    (h : SyncTruthful s) : SyncTruthful t := by
  cases ht with
  | rejected | volts | readFailed | frameRead | sampled | continuous | startPolling | tested =>
    exact h.congr (by simp) (by simp) (by simp)
  | setter | commitFailed | triggerFailed => exact syncTruthful_of_dirty (by simp)
  | bound | refreshed | polled => exact syncTruthful_of_agrees rfl (by simp [deviceRead_config])
  | committed _ _ hh => exact syncTruthful_of_agrees (by simpa using hh) (by simp)
  | triggered | started => exact syncTruthful_of_agrees rfl (by simp)
  | frameFailed _ v he | frameWritten _ v he => exact absurd he (hi v)

/-- Where no device reset is scripted the step's event is none. -/
theorem event_ne_deviceReset {s : State} (h : Event.deviceReset ∉ s.inputs.events) : s.inputs.event ≠ .deviceReset := by
  unfold Inputs.event
  cases he : s.inputs.events with
  | nil => simp
  | cons e rest => rintro rfl; simp [he] at h

/-- With no write frame on the bench, what is presented is no bare register write. -/
theorem OneWriter.ne_regWrite {s : State} {it : Item} {i : Instr} (h : OneWriter s) (hp : s.presented = some it)
    (hd : decode it = .instr i) (v : Word) : i ≠ .regWrite v := by
  rintro rfl
  obtain ⟨w, rfl⟩ := writeFrame_of_decode_regWrite hd
  obtain ⟨hbench, -⟩ := h
  rcases presented_cases s with ⟨_, _, e⟩ | ⟨_, _, _, _, e, _⟩ | ⟨it, rest, hb, e, _⟩ <;> rw [hp] at e
  · cases e
  · cases e
  · injection e with e
    subst e
    simp [hb, Item.notWriteFrame] at hbench

/-- `OneWriter` is kept where rows and events are only used up. -/
theorem OneWriter.of_subset {s t : State} (h : OneWriter s) (hb : t.bench ⊆ s.bench)
    (he : t.inputs.events ⊆ s.inputs.events) : OneWriter t := by
  obtain ⟨hbench, hevents⟩ := h
  exact ⟨List.all_eq_true.mpr fun it hit => List.all_eq_true.mp hbench it (hb hit), fun hm => hevents (he hm)⟩

/-- A step adds no row to the bench and scripts no event. -/
theorem step_uses_up_bench_and_events {s t : State} (hst : step s = .next t) :
    t.bench ⊆ s.bench ∧ t.inputs.events ⊆ s.inputs.events := by
  cases step_effect hst with
  | item _ _ _ _ _ _ ht | sampling _ _ ht =>
    obtain ⟨-, hb, he⟩ := effect_keeps_presented_and_events ht
    rw [hb, he]
    simp [List.tail_subset]
  | _ => simp [List.tail_subset]

/-- Settles O57: each effect of a step leaves mirror, device and flag, ends Dirty, or ends with a mirror just exchanged with the
device; the two that would not, a bare write frame and a device reset, are what `OneWriter` excludes. -/
theorem everyStepKeepsSyncTruthful : Obligations.EveryStepKeepsSyncTruthful := by
  intro s t hw h hst
  obtain ⟨hbench, hevents⟩ := step_uses_up_bench_and_events hst
  refine ⟨hw.of_subset hbench hevents, ?_⟩
  have hdrop : SyncTruthful s.dropEvent := h.congr rfl rfl rfl
  have htaken : SyncTruthful s.dropEvent.taken := hdrop.congr (by simp) (by simp) (by simp)
  cases step_effect hst with
  | quiet => exact hdrop
  | skipped => exact htaken
  | rejected => exact htaken.congr rfl rfl rfl
  | item it i _ _ hp hd ht => exact ht.keeps_syncTruthful (hw.ne_regWrite hp hd) htaken
  | sampling _ _ ht => exact ht.keeps_syncTruthful (by simp) hdrop
  | convDone | contUpdate => exact hdrop.congr rfl rfl rfl
  | blockReset => exact syncTruthful_of_dirty rfl
  | deviceReset he => exact absurd he (event_ne_deviceReset hw.2)

/-! ### Who writes `SAMPLE` -/

/-- An instruction leaves `SAMPLE`, or is the conversion read that ends a ReadSample (R96). -/
theorem Effect.sample_cases {i : Instr} {s t : State} (ht : Effect i s t) :
    t.sample = s.sample ∨ (s.seq = .ready ∧ t.seq = .idle ∧ t.err = .ok ∧ t.sample = some s.dev.conv) := by
  cases ht with
  | sampled _ _ _ hs => exact .inr ⟨hs, by simp⟩
  | _ => exact .inl (by simp [State.armed])

/-- A step leaves `SAMPLE`, ends a ReadSample with success, or is a block reset. -/
theorem step_sample_cases {s t : State} (hst : step s = .next t) :
    t.sample = s.sample ∨ (s.seq = .ready ∧ t.seq = .idle ∧ t.err = .ok ∧ t.sample = some s.dev.conv) ∨
      s.inputs.event = .blockReset := by
  cases step_effect hst with
  | item _ _ _ _ _ _ ht | sampling _ _ ht => exact ht.sample_cases.imp (by simp) (fun h => .inl (by simpa using h))
  | blockReset he => exact .inr (.inr he)
  | _ => exact .inl (by simp)

/-! ### Who writes `VOLTS` -/

/-- An instruction leaves `VOLTS`, or gives it a value and ends with ERR_OK. -/
theorem Effect.volts_cases {i : Instr} {s t : State} (ht : Effect i s t) :
    t.volts = s.volts ∨ (i ≠ .readSample ∧ t.err = .ok ∧ t.volts.isSome = true) := by
  cases ht with
  | volts x hi => exact .inr ⟨hi, by simp⟩
  | _ => exact .inl (by simp [State.armed])

/-- The handle check leaves `VOLTS` where what follows it does. -/
theorem withHandle_volts {s : State} {f : Handle → State} (hf : ∀ h, (f h).volts = s.volts) :
    (s.withHandle f).volts = s.volts := by
  rcases withHandle_cases s f with ⟨_, e⟩ | ⟨h, _, e⟩ <;> rw [e]
  · simp
  · exact hf h

/-- A register write leaves `VOLTS` where what follows it does. -/
theorem memWrite_volts {onError onOk : State → State} (he : ∀ t, (onError t).volts = t.volts)
    (ho : ∀ t, (onOk t).volts = t.volts) (s : State) (a : BusAddr) (v : Word) :
    (s.memWrite a v onError onOk).volts = s.volts := by
  rcases memWrite_cases s a v onError onOk with ⟨_, e⟩ | ⟨_, e⟩ <;> rw [e]
  · simp [he]
  · simp [ho]

/-- A register read leaves `VOLTS` where what follows it does. -/
theorem memRead_volts {onError : State → State} {onOk : Word → State → State} (he : ∀ t, (onError t).volts = t.volts)
    (ho : ∀ v t, (onOk v t).volts = t.volts) (s : State) (a : BusAddr) (r : Reg) :
    (s.memRead a r onError onOk).volts = s.volts := by
  rcases memRead_cases s a r onError onOk with ⟨_, e⟩ | ⟨_, e⟩ <;> rw [e]
  · simp [he]
  · simp [ho]

theorem setField_volts (s : State) (f : Field) (v : Word) : (s.setField f v).volts = s.volts :=
  withHandle_volts fun h => by split <;> simp

/-- No instruction but ToVolts writes `VOLTS`. -/
theorem exec_keeps_volts {i : Instr} {s t : State} (hi : ∀ raw, i ≠ .toVolts raw) (he : exec i s = .next t) :
    t.volts = s.volts := by
  cases i with
  | toVolts raw => exact absurd rfl (hi raw)
  | cfgWord w => cases he
  | readSample => exact (exec_effect he).volts_cases.resolve_right (fun h => h.1 rfl)
  | initialise a =>
    injection he with he; subst he
    split
    · exact memRead_volts (by simp) (by simp) _ _ _
    · rfl
  | commit | regWrite =>
    injection he with he; subst he
    exact withHandle_volts fun h => memWrite_volts (by simp) (by simp) _ _ _
  | refresh | regReadConfig | regReadConversion =>
    injection he with he; subst he
    exact withHandle_volts fun h => memRead_volts (by simp) (by simp) _ _ _
  | statusStart =>
    injection he with he; subst he
    exact withHandle_volts fun h => memWrite_volts (by simp) (by simp) (s.armed h) _ _
  | statusBusy | statusReady => injection he with he; subst he; rfl
  | _ => injection he with he; subst he; exact setField_volts _ _ _

/-- Before an idle block with an instruction presented, a step runs that instruction, or is a step of the device, or a reset. -/
theorem step_of_presented_cases {s t : State} {it : Item} {i : Instr} (hst : step s = .next t) (hseq : s.seq = .idle)
    (hp : s.presented = some it) (hd : decode it = .instr i) :
    exec i s.dropEvent.taken = .next t ∨ t = s.dropEvent.convDone ∨ t = s.dropEvent.contUpdate ∨
      s.inputs.event = .blockReset ∨ t = s.dropEvent.deviceReset := by
  have hblock : blockTurn s.dropEvent = .run i s.dropEvent.taken := by
    have hp' : s.dropEvent.presented = some it := hp
    simp [blockTurn, hseq, hp', itemTurn, hd]
  unfold step at hst
  rcases turn_cases s with e | ⟨-, e⟩ | ⟨-, e⟩ | ⟨he, -⟩ | ⟨-, e⟩
  · rw [e, hblock] at hst; exact .inl hst
  · rw [e] at hst; injection hst with hst; exact .inr (.inl hst.symm)
  · rw [e] at hst; injection hst with hst; exact .inr (.inr (.inl hst.symm))
  · exact .inr (.inr (.inr (.inl he)))
  · rw [e] at hst; injection hst with hst; exact .inr (.inr (.inr (.inr hst.symm)))

/-- A step that gives an idle block's `VOLTS` another value runs a ToVolts, or is a block reset. -/
theorem presented_toVolts_of_volts_ne {s t : State} {it : Item} {i : Instr} (hst : step s = .next t) (hseq : s.seq = .idle)
    (hp : s.presented = some it) (hd : decode it = .instr i) (hne : t.volts ≠ s.volts) :
    (∃ raw, i = .toVolts raw) ∨ s.inputs.event = .blockReset := by
  rcases step_of_presented_cases hst hseq hp hd with he | rfl | rfl | he | rfl
  · left
    by_contra hi
    exact hne (by simpa using exec_keeps_volts (not_exists.mp hi) he)
  · exact absurd rfl hne
  · exact absurd rfl hne
  · exact .inr he
  · exact absurd rfl hne

/-- A step that changes `VOLTS` runs a ToVolts that succeeds, or is a block reset. -/
theorem step_toVolts_of_volts_ne {s t : State} (hst : step s = .next t) (hne : t.volts ≠ s.volts) :
    (s.seq = .idle ∧ t.err = .ok ∧ t.volts.isSome = true ∧
        ∃ it raw, s.presented = some it ∧ decode it = .instr (.toVolts raw)) ∨
      s.inputs.event = .blockReset := by
  cases step_effect hst with
  | item it i _ hs hp hd ht =>
    obtain ⟨-, herr, hsome⟩ := ht.volts_cases.resolve_left (by simpa using hne)
    exact (presented_toVolts_of_volts_ne hst hs hp hd hne).imp_left fun ⟨raw, hi⟩ => ⟨hs, herr, hsome, it, raw, hp, hi ▸ hd⟩
  | sampling _ _ ht => exact absurd rfl (ht.volts_cases.resolve_left (by simpa using hne)).1
  | blockReset he => exact .inr he
  | _ => exact absurd (by simp) hne

/-- Settles O52: of the effects of a step only the conversion read of ReadSample and ToVolts write a result, and only block reset
clears one. -/
theorem resultsWrittenOnlyByTheirOperation : Obligations.ResultsWrittenOnlyByTheirOperation := by
  intro s t hst
  exact ⟨fun hne => (step_sample_cases hst).resolve_left hne, step_toVolts_of_volts_ne hst⟩

/-! ### Who makes the handle -/

/-- An instruction leaves the handle, or its address, or is an Initialize that succeeds (R84). -/
theorem Effect.handle_cases {i : Instr} {s t : State} (ht : Effect i s t) :
    t.handle = s.handle ∨ (∃ h v, s.handle = some h ∧ t.handle = some { h with cfg := v }) ∨
      ∃ a v, i = .initialise a ∧ t.err = .ok ∧ t.handle = some { addr := a.setWidth 7, cfg := v } := by
  cases ht with
  | setter h _ _ _ hh | refreshed h _ hh | polled h _ hh | triggerFailed h hh | triggered h _ hh | started h _ hh =>
    exact .inr (.inl ⟨h, _, hh, rfl⟩)
  | bound a hi => exact .inr (.inr ⟨a, _, hi, rfl, rfl⟩)
  | _ => exact .inl (by simp)

/-- A step leaves the handle, or its address, or is an Initialize that succeeds, or a block reset. -/
theorem step_handle_cases {s t : State} (hst : step s = .next t) :
    t.handle = s.handle ∨ (∃ h v, s.handle = some h ∧ t.handle = some { h with cfg := v }) ∨
      (s.seq = .idle ∧ t.err = .ok ∧ ∃ it a v, s.presented = some it ∧ decode it = .instr (.initialise a) ∧
        t.handle = some { addr := a.setWidth 7, cfg := v }) ∨
      (s.inputs.event = .blockReset ∧ t.handle = none) := by
  cases step_effect hst with
  | item it i _ hs hp hd ht =>
    rcases ht.handle_cases with e | ⟨h, v, hh, e⟩ | ⟨a, v, rfl, herr, e⟩
    · exact .inl (by simpa using e)
    · exact .inr (.inl ⟨h, v, by simpa using hh, e⟩)
    · exact .inr (.inr (.inl ⟨hs, herr, it, a, v, hp, hd, e⟩))
  | sampling _ _ ht =>
    rcases ht.handle_cases with e | ⟨h, v, hh, e⟩ | ⟨_, _, hi, _⟩
    · exact .inl e
    · exact .inr (.inl ⟨h, v, hh, e⟩)
    · cases hi
  | blockReset he => exact .inr (.inr (.inr ⟨he, rfl⟩))
  | _ => exact .inl (by simp)

/-- Settles O53: of the four things a step can do to the handle only Initialize gives it another address, and only block reset
takes it away. -/
theorem handleMadeOnlyByInitialize : Obligations.HandleMadeOnlyByInitialize := by
  intro s t hst
  rcases step_handle_cases hst with e | ⟨h, v, hh, e⟩ | ⟨hs, herr, it, a, v, hp, hd, e⟩ | ⟨he, e⟩
  · have hinit : t.inited = s.inited := by simp [State.inited, e]
    exact ⟨fun h' hh' hne => absurd rfl (hne h' (e ▸ hh')), fun hi hn => by simp [← hinit, hn] at hi⟩
  · refine ⟨fun h' hh' hne => ?_, fun _ hn => by simp [State.inited, e] at hn⟩
    rw [e] at hh'
    cases hh'
    exact absurd rfl (hne h hh)
  · refine ⟨fun h' hh' _ => ?_, fun _ hn => by simp [State.inited, e] at hn⟩
    rw [e] at hh'
    cases hh'
    exact ⟨hs, herr, it, a, hp, hd, rfl⟩
  · exact ⟨fun h' hh' => by simp [e] at hh', fun _ _ => he⟩

/-! ### No operation reads `SYNC` -/

/-- From states that differ in `SYNC` alone, `f` goes to states that differ in `SYNC` alone. -/
def SyncBlind (f : State → State) : Prop := ∀ s x, ∃ y, f (s.setSync x) = (f s).setSync y

theorem syncBlind_raise (e : Err) : SyncBlind (·.raise e) := fun _ x => ⟨x, rfl⟩

/-- A branch is `SyncBlind` where its condition does not read `SYNC`. -/
theorem syncBlind_ite {p : State → Prop} [DecidablePred p] {f g : State → State} (hp : ∀ s x, p (s.setSync x) ↔ p s)
    (hf : SyncBlind f) (hg : SyncBlind g) : SyncBlind fun s => if p s then f s else g s := by
  intro s x
  by_cases h : p s
  · simpa only [hp, h, if_true] using hf s x
  · simpa only [hp, h, if_false] using hg s x

/-- The handle check does not read `SYNC`, so what follows it decides. -/
theorem syncBlind_withHandle {f : Handle → State → State} (hf : ∀ h, SyncBlind (f h)) :
    SyncBlind fun s => s.withHandle fun h => f h s := by
  intro s x
  cases hh : s.handle with
  | none => simpa only [withHandle_none _ hh, withHandle_none (s := s.setSync x) _ hh] using syncBlind_raise .noHandle s x
  | some h => simpa only [withHandle_some _ hh, withHandle_some (s := s.setSync x) _ hh] using hf h s x

/-- A register write neither reads nor writes `SYNC`, so what follows it decides. -/
theorem syncBlind_memWrite (a : BusAddr) (v : Word) {onError onOk : State → State} (he : SyncBlind onError)
    (ho : SyncBlind onOk) : SyncBlind fun s => s.memWrite a v onError onOk := by
  intro s x
  cases ha : s.inputs.answer with
  | transportError =>
    simp only [memWrite_error _ _ _ _ ha, memWrite_error (s := s.setSync x) _ _ _ _ ha]
    exact he (s.writeFailed a v) x
  | ok =>
    simp only [memWrite_ok _ _ _ _ ha, memWrite_ok (s := s.setSync x) _ _ _ _ ha]
    exact ho (s.writeDone a v) x

theorem readDone_setSync (s : State) (x : Sync) (a : BusAddr) (r : Reg) :
    (s.setSync x).readDone a r = (s.readDone a r).setSync x := by
  cases r <;> rfl

theorem deviceRead_setSync (s : State) (x : Sync) (r : Reg) :
    (s.setSync x).dropAnswer.deviceRead r = s.dropAnswer.deviceRead r := by
  cases r <;> rfl

/-- A register read neither reads nor writes `SYNC`, so what follows it decides. -/
theorem syncBlind_memRead (a : BusAddr) (r : Reg) {onError : State → State} {onOk : Word → State → State}
    (he : SyncBlind onError) (ho : ∀ v, SyncBlind (onOk v)) : SyncBlind fun s => s.memRead a r onError onOk := by
  intro s x
  cases ha : s.inputs.answer with
  | transportError =>
    simp only [memRead_error _ _ _ _ ha, memRead_error (s := s.setSync x) _ _ _ _ ha]
    exact he (s.readFailed a r) x
  | ok =>
    simp only [memRead_ok _ _ _ _ ha, memRead_ok (s := s.setSync x) _ _ _ _ ha, readDone_setSync, deviceRead_setSync]
    exact ho (s.dropAnswer.deviceRead r) (s.readDone a r) x

/-- A read that raises TransportError or returns touches no flag. -/
theorem syncBlind_memRead_respond (a : BusAddr) (r : Reg) :
    SyncBlind fun s => s.memRead a r (fun t => t.raise .transportError) (fun _ t => t.respond) :=
  syncBlind_memRead a r (syncBlind_raise _) fun _ _ x => ⟨x, rfl⟩

theorem syncBlind_setField (f : Field) (v : Word) : SyncBlind (·.setField f v) :=
  syncBlind_withHandle fun _ => syncBlind_ite (fun _ _ => Iff.rfl) (fun _ _ => ⟨.dirty, rfl⟩) (syncBlind_raise _)

theorem syncBlind_initialise (a : BusAddr) : SyncBlind (·.initialise a) :=
  syncBlind_memRead a .config (syncBlind_raise _) fun _ _ _ => ⟨.clean, rfl⟩

/-- Commit sets `SYNC` on both ends. -/
theorem syncBlind_commitCfg (h : Handle) :
    SyncBlind fun s => s.commitCfg h (fun t => t.raise .transportError) (fun t => t.respond) :=
  syncBlind_memWrite h.addr h.cfg (fun _ _ => ⟨.dirty, rfl⟩) fun _ _ => ⟨.clean, rfl⟩

/-- The trigger Commit sets `SYNC` Dirty before it does anything else. -/
theorem syncBlind_triggerCommit (h : Handle) (onError onOk : State → State) :
    SyncBlind fun s => s.triggerCommit h onError onOk :=
  fun s _ => ⟨(s.triggerCommit h onError onOk).sync, rfl⟩

theorem syncBlind_refreshCfg (h : Handle) :
    SyncBlind fun s => s.refreshCfg h (fun t => t.raise .transportError) (fun _ t => t.respond) :=
  syncBlind_memRead h.addr .config (syncBlind_raise _) fun _ _ _ => ⟨.clean, rfl⟩

theorem syncBlind_toVolts (raw : Word) : SyncBlind (·.toVolts raw) :=
  syncBlind_withHandle fun h s x => by
    cases fullScale (gainCode h.cfg) with
    | none => exact syncBlind_raise _ s x
    | some fsr => exact ⟨x, rfl⟩

theorem syncBlind_startSample (h : Handle) : SyncBlind (·.startSample h) :=
  syncBlind_ite (fun _ _ => Iff.rfl) (syncBlind_triggerCommit h _ _) fun _ x => ⟨x, rfl⟩

theorem syncBlind_poll (h : Handle) : SyncBlind (·.poll h) :=
  syncBlind_ite (fun _ _ => Iff.rfl) (syncBlind_raise _)
    (syncBlind_memRead h.addr .config (syncBlind_raise _) fun _ _ _ => ⟨.clean, rfl⟩)

theorem syncBlind_readConversion (h : Handle) : SyncBlind (·.readConversion h) :=
  syncBlind_memRead h.addr .conversion (syncBlind_raise _) fun _ _ x => ⟨x, rfl⟩

theorem syncBlind_sampleStep : SyncBlind (·.sampleStep) :=
  syncBlind_withHandle fun h s x => by
    simp only [State.setSync_seq]
    cases s.seq with
    | idle => exact syncBlind_startSample h s x
    | triggered => exact ⟨x, rfl⟩
    | polling => exact syncBlind_poll h s x
    | ready => exact syncBlind_readConversion h s x

/-- An instruction that has a meaning is `SyncBlind`. -/
theorem exec_syncBlind {i : Instr} (hi : ∀ w, i ≠ .cfgWord w) : ∃ f, SyncBlind f ∧ ∀ s, exec i s = .next (f s) := by
  cases i with
  | initialise a => exact ⟨_, syncBlind_ite (fun _ _ => Iff.rfl) (syncBlind_initialise _) (syncBlind_raise _), fun _ => rfl⟩
  | commit => exact ⟨_, syncBlind_withHandle syncBlind_commitCfg, fun _ => rfl⟩
  | refresh => exact ⟨_, syncBlind_withHandle syncBlind_refreshCfg, fun _ => rfl⟩
  | readSample => exact ⟨_, syncBlind_sampleStep, fun _ => rfl⟩
  | toVolts raw => exact ⟨_, syncBlind_toVolts raw, fun _ => rfl⟩
  | regWrite v =>
    exact ⟨_, syncBlind_withHandle fun h => syncBlind_memWrite h.addr v (syncBlind_raise _) fun _ x => ⟨x, rfl⟩, fun _ => rfl⟩
  | regReadConfig => exact ⟨_, syncBlind_withHandle fun h => syncBlind_memRead_respond h.addr .config, fun _ => rfl⟩
  | regReadConversion => exact ⟨_, syncBlind_withHandle fun h => syncBlind_memRead_respond h.addr .conversion, fun _ => rfl⟩
  | cfgWord w => exact absurd rfl (hi w)
  | statusStart => exact ⟨_, syncBlind_withHandle fun h => syncBlind_triggerCommit h _ _, fun _ => rfl⟩
  | statusBusy | statusReady => exact ⟨(·.pollTest _), fun _ x => ⟨x, rfl⟩, fun _ => rfl⟩
  | _ => exact ⟨_, syncBlind_setField _ _, fun _ => rfl⟩

/-- Settles O54: every instruction with a next state is one `SyncBlind` function of the state. -/
theorem syncSteersNothing : Obligations.SyncSteersNothing := by
  intro i s t x he
  have hi : ∀ w, i ≠ .cfgWord w := by rintro w rfl; cases he
  obtain ⟨f, hf, hexec⟩ := exec_syncBlind hi
  rw [hexec] at he
  cases he
  obtain ⟨y, hy⟩ := hf s x
  exact ⟨y, by rw [hexec]; exact congrArg _ hy⟩

/-! ### Reset -/

/-- Code 7 of `ERR` is never produced (60_exceptions.md R118). -/
theorem err_code_ne_seven (e : Err) : e.code ≠ 7#3 := by
  cases e <;> decide

/-- The first configuration read after reset returns 0x8583: single-shot mode and not busy (R32, 20_memory.md R43). -/
theorem reset_deviceRead_config : State.reset.deviceRead .config = 0x8583#16 := by decide

/-- Settles O58: each value is read off the state after reset, and each code off its table. -/
theorem resetLeavesSpecValues : Obligations.ResetLeavesSpecValues :=
  ⟨⟨rfl, rfl, reset_deviceRead_config, rfl, rfl, rfl, rfl, rfl, rfl, rfl⟩, rfl, rfl, rfl, err_code_ne_seven⟩

end Sys2Proof.Machine
end

section
/-! PROOFS. 20_memory.md: which register a pointer byte selects, what a frame the block never sends comes to, and what a step puts
on the bus. -/

namespace Sys2Proof

/-! ### The pointer map -/

/-- A register stands at its own pointer byte (R34). -/
@[simp] theorem PointerReg.ofAddress_address (r : PointerReg) : ofAddress r.address = some r := by
  cases r <;> rfl

/-- A pointer byte selects the register that stands there, and no other (R34). -/
theorem PointerReg.ofAddress_eq_some_iff {p : Byte} {r : PointerReg} : ofAddress p = some r ↔ r.address = p := by
  constructor
  · intro h
    unfold ofAddress at h
    split_ifs at h with h0 h1 h2 h3 <;> cases h <;> symm <;> assumption
  · rintro rfl
    exact ofAddress_address r

/-- A register's pointer byte is one of the first four. -/
theorem PointerReg.address_toNat_lt_four (r : PointerReg) : r.address.toNat < 4 := by
  cases r <;> decide

/-- The bytes from 0x04 on, and no others, select no register (R34). -/
theorem PointerReg.ofAddress_eq_none_iff {p : Byte} : ofAddress p = none ↔ 4 ≤ p.toNat := by
  constructor
  · intro h
    unfold ofAddress at h
    split_ifs at h
    bv_omega
  · intro h
    refine Option.eq_none_iff_forall_ne_some.mpr fun r hr => ?_
    have hlt := r.address_toNat_lt_four
    rw [ofAddress_eq_some_iff.mp hr] at hlt
    omega

/-! ### The frames the block never sends -/

/-- Why a frame at pointer byte `p` that the block never sends is no instruction: in that direction it does not access the register
there (R44, R45), or no register is there (R34). -/
def frameReject (p : Byte) : Reject := if p.toNat < 4 then .neverIssued else .undefinedPointer

theorem frameReject_address (r : PointerReg) : frameReject r.address = .neverIssued := if_pos r.address_toNat_lt_four

theorem frameReject_of_ofAddress_none {p : Byte} (h : PointerReg.ofAddress p = none) : frameReject p = .undefinedPointer :=
  if_neg (PointerReg.ofAddress_eq_none_iff.mp h).not_gt

/-- A write frame is rejected at every pointer byte but the configuration register's (R45). -/
theorem decodeWriteFrame_rejected {w : BitVec 24} (h : w.extractLsb' 16 8 ≠ 0x01#8) :
    decodeWriteFrame w = .rejected (frameReject (w.extractLsb' 16 8)) := by
  unfold decodeWriteFrame
  cases hr : PointerReg.ofAddress (w.extractLsb' 16 8) with
  | none => rw [frameReject_of_ofAddress_none hr]
  | some r =>
    have hp := PointerReg.ofAddress_eq_some_iff.mp hr
    rw [← hp, frameReject_address]
    cases r with
    | config => exact absurd hp.symm h
    | conversion | loThresh | hiThresh => rfl

/-- A read frame is rejected at every pointer byte from the threshold registers' on (R44). -/
theorem decodeReadFrame_rejected {w : Byte} (h : 2 ≤ w.toNat) : decodeReadFrame w = .rejected (frameReject w) := by
  unfold decodeReadFrame
  cases hr : PointerReg.ofAddress w with
  | none => rw [frameReject_of_ofAddress_none hr]
  | some r =>
    obtain rfl := PointerReg.ofAddress_eq_some_iff.mp hr
    rw [frameReject_address]
    cases r with
    | conversion | config => exact absurd h (by decide)
    | loThresh | hiThresh => rfl

end Sys2Proof

namespace Sys2Proof.Machine

/-- An idle block before a frame that is never sent stops with the refusal of the same name (R44, R45, D31; log 21). -/
theorem step_of_presented_frameReject {s : State} {it : Item} {p : Byte} (hseq : s.seq = .idle)
    (hev : s.inputs.event = .turn .block) (hp : s.presented = some it) (hd : decode it = .rejected (frameReject p)) :
    step s = .refused (if p.toNat < 4 then .neverIssued else .undefinedPointer) := by
  have hturn : turn s = rejectTurn (frameReject p) s.dropEvent.taken := by
    rw [turn_of_presented hseq hev hp, itemTurn, hd]
  by_cases hlt : p.toNat < 4 <;> simp [step, hturn, frameReject, rejectTurn, hlt]

/-! ### The threshold registers -/

/-- No instruction writes a threshold register: a configuration write, done or failed, leaves them as well (R42, R46). -/
theorem Effect.keeps_thresholds {i : Instr} {s t : State} (ht : Effect i s t) :
    t.dev.lo = s.dev.lo ∧ t.dev.hi = s.dev.hi := by
  cases ht with
  | frameFailed | frameWritten | commitFailed | committed | triggerFailed | triggered | started => exact ⟨rfl, rfl⟩
  | _ => simp

/-- No step but a device reset writes a threshold register (10_state.md R26). -/
theorem step_keeps_thresholds {s t : State} (hst : step s = .next t) (he : s.inputs.event ≠ .deviceReset) :
    t.dev.lo = s.dev.lo ∧ t.dev.hi = s.dev.hi := by
  cases step_effect hst with
  | item _ _ _ _ _ _ ht | sampling _ _ ht => simpa using ht.keeps_thresholds
  | deviceReset hr => exact absurd hr he
  | _ => simp

/-- Settles O10: a byte and a register determine each other, each frame outside the map is rejected by the decoder, and every effect
of a step but the device reset leaves the threshold registers. -/
theorem pointerMapIsClosed : Obligations.PointerMapIsClosed := by
  refine ⟨rfl, fun _ _ => PointerReg.ofAddress_eq_some_iff, fun _ => PointerReg.ofAddress_eq_none_iff, ?_, ?_⟩
  · intro s rest hseq hev
    constructor
    · intro w hb hw
      exact step_of_presented_frameReject hseq hev (presented_of_bench hb) (decodeWriteFrame_rejected hw)
    · intro w hb hw
      exact step_of_presented_frameReject hseq hev (presented_of_bench hb) (decodeReadFrame_rejected hw)
  · intro s t hst he
    obtain ⟨hlo, hhi⟩ := step_keeps_thresholds hst he
    simp [Device.register, hlo, hhi]

/-! ### What a step puts on the bus -/

/-- A register write is a 3-byte write of pointer 0x01 (R37). -/
@[simp] theorem wellShaped_write_writeFrame (a : BusAddr) (v : Word) (x : Answer) :
    (BusCall.write a (writeFrame v) x).wellShaped = true := rfl

/-- A register read sends the one pointer byte 0x01 or 0x00 (R38). -/
@[simp] theorem wellShaped_read_pointer (a : BusAddr) (r : Reg) (x : Option (Byte × Byte)) :
    (BusCall.read a [r.pointer] x).wellShaped = true := by
  cases r <;> rfl

/-- A register read that is done adds its one call to the history (R38). -/
@[simp] theorem readDone_trace (s : State) (a : BusAddr) (r : Reg) :
    (s.readDone a r).trace = s.trace ++
      [.read a [r.pointer] (some (hiByte (s.dropAnswer.deviceRead r), loByte (s.dropAnswer.deviceRead r)))] := by
  simp [State.readDone]

/-- From `s` to `t` the bus history stays, or has grown by one call of a shape the block issues. -/
def AtMostOneCall (s t : State) : Prop := t.trace = s.trace ∨ ∃ c, c.wellShaped = true ∧ t.trace = s.trace ++ [c]

/-- An instruction makes no bus call, or one register write or read. -/
theorem Effect.atMostOneCall {i : Instr} {s t : State} (ht : Effect i s t) : AtMostOneCall s t := by
  cases ht with
  | rejected | setter | volts | continuous | startPolling | tested => exact .inl (by simp)
  | readFailed => exact .inr ⟨_, wellShaped_read_pointer _ _ _, rfl⟩
  | bound | refreshed | polled | frameRead | sampled => exact .inr ⟨_, wellShaped_read_pointer _ _ _, readDone_trace _ _ _⟩
  | frameFailed | frameWritten | commitFailed | committed | triggerFailed | triggered | started =>
    exact .inr ⟨_, wellShaped_write_writeFrame _ _ _, rfl⟩

/-- A step makes no bus call but the one of the instruction it runs (R48). -/
theorem step_atMostOneCall {s t : State} (hst : step s = .next t) : AtMostOneCall s t := by
  cases step_effect hst with
  | item _ _ _ _ _ _ ht | sampling _ _ ht => simpa [AtMostOneCall] using ht.atMostOneCall
  | _ => exact .inl (by simp)

/-- Settles O49: each effect of a step adds at most one call to the history. -/
theorem oneBusCallPerStep : Obligations.OneBusCallPerStep := by
  intro s t hst
  exact (step_atMostOneCall hst).imp_right fun ⟨c, _, e⟩ => ⟨c, e⟩

/-- Settles O50: the one call that a step can add has one of the two shapes. -/
theorem everyStepKeepsBusShapes : Obligations.EveryStepKeepsBusShapes := by
  intro s t h hst
  rcases step_atMostOneCall hst with e | ⟨c, hc, e⟩
  · rwa [BusWellShaped, e]
  · rw [BusWellShaped, e, List.all_append, h]
    simpa using hc

end Sys2Proof.Machine
end

section
/-! PROOFS. 30_encoding.md: encoder and decoder undo each other, the legal operands are the enumerations, and what the status
values do. -/

namespace Sys2Proof

/-! ### Command words and write frames are their two parts -/

/-- Two words one before the other, by shift and OR. -/
theorem shiftLeft_or_eq_append {m n : Nat} (x : BitVec m) (y : BitVec n) :
    x.setWidth (m + n) <<< n ||| y.setWidth (m + n) = x ++ y := by
  rw [BitVec.append_def, BitVec.shiftLeftZeroExtend_eq, BitVec.setWidth'_eq]

/-- A command word is its op before its operand (R69). -/
theorem commandWord_eq_append (op : BitVec 4) (v : Word) : commandWord op v = op ++ v := shiftLeft_or_eq_append op v

@[simp] theorem commandOp_commandWord (op : BitVec 4) (v : Word) : commandOp (commandWord op v) = op := by
  rw [commandOp, commandWord_eq_append, BitVec.extractLsb'_append_eq_left]

@[simp] theorem commandOperand_commandWord (op : BitVec 4) (v : Word) : commandOperand (commandWord op v) = v := by
  rw [commandOperand, commandWord_eq_append, BitVec.extractLsb'_append_eq_right]

/-- A command word has no bit but those of its op and its operand (R69). -/
theorem commandWord_commandOp_commandOperand (w : BitVec 20) : commandWord (commandOp w) (commandOperand w) = w := by
  rw [commandWord_eq_append]
  exact (BitVec.extractLsb'_append_extractLsb'_eq_extractLsb' rfl).trans BitVec.extractLsb'_eq_self

/-- A write frame is its pointer byte before its value (R66). -/
theorem frameWord_eq_append (p : Byte) (v : Word) : frameWord p v = p ++ v := shiftLeft_or_eq_append p v

@[simp] theorem frameWord_pointer (p : Byte) (v : Word) : (frameWord p v).extractLsb' 16 8 = p := by
  rw [frameWord_eq_append, BitVec.extractLsb'_append_eq_left]

@[simp] theorem frameWord_value (p : Byte) (v : Word) : (frameWord p v).extractLsb' 0 16 = v := by
  rw [frameWord_eq_append, BitVec.extractLsb'_append_eq_right]

/-- A write frame has no bit but those of its pointer byte and its value (R66). -/
theorem frameWord_pointer_value (w : BitVec 24) : frameWord (w.extractLsb' 16 8) (w.extractLsb' 0 16) = w := by
  rw [frameWord_eq_append]
  exact (BitVec.extractLsb'_append_extractLsb'_eq_extractLsb' rfl).trans BitVec.extractLsb'_eq_self

/-! ### The words of a field -/

/-- The word that holds code `n` in the field and no other bit (R57). -/
def Field.word (f : Field) (n : Nat) : Word := BitVec.ofNat 16 n <<< f.shift

/-- The enumeration of a field: the words of its legal codes (R64). -/
def Field.values (f : Field) : List Word := (List.range (f.maxCode + 1)).map f.word

/-- The word of a field's code is the word's part under the mask (R57). -/
theorem Field.word_code (f : Field) (v : Word) : f.word (f.code v) = v &&& f.mask := by
  have hmask : f.mask &&& BitVec.allOnes 16 <<< f.shift = f.mask := by cases f <;> decide
  rw [word, code, BitVec.ofNat_toNat, BitVec.setWidth_eq, BitVec.shiftLeft_ushiftRight, BitVec.and_assoc, hmask]

/-- A word with no bit outside a mask is its part under the mask. -/
theorem and_eq_self_of_and_not_eq_zero {v m : Word} (h : v &&& ~~~m = 0#16) : v &&& m = v := by
  rw [← BitVec.or_zero (x := v &&& m), ← h, ← BitVec.and_or_distrib_left, BitVec.or_not_self, BitVec.and_allOnes]

/-- The two halves of the legality test (R64). -/
theorem Field.legal_iff {f : Field} {v : Word} : f.legal v = true ↔ v &&& ~~~f.mask = 0#16 ∧ f.code v ≤ f.maxCode := by
  simp [legal]

/-- A legal operand is the word of its code. -/
theorem Field.word_code_of_legal {f : Field} {v : Word} (h : f.legal v = true) : f.word (f.code v) = v := by
  rw [word_code, and_eq_self_of_and_not_eq_zero (legal_iff.mp h).1]

/-- The word of a code of the enumeration passes the legality test. -/
theorem Field.legal_word {f : Field} {n : Nat} (h : n ≤ f.maxCode) : f.legal (f.word n) = true := by
  revert n
  cases f <;> decide

/-- The legal operands of a setter are the enumeration of its field (R64). -/
theorem Field.legal_iff_mem_values {f : Field} {v : Word} : f.legal v = true ↔ v ∈ f.values := by
  simp only [values, List.mem_map, List.mem_range, Nat.lt_succ_iff]
  constructor
  · intro h
    obtain ⟨-, hcode⟩ := legal_iff.mp h
    exact ⟨f.code v, hcode, word_code_of_legal h⟩
  · rintro ⟨n, hn, rfl⟩
    exact legal_word hn

/-- Settles O5: each of the four lists is the enumeration of its field. -/
theorem legalOperandsAreEnumerations : Obligations.LegalOperandsAreEnumerations :=
  ⟨fun _ => Field.legal_iff_mem_values, fun _ => Field.legal_iff_mem_values, fun _ => Field.legal_iff_mem_values,
    fun _ => Field.legal_iff_mem_values⟩

/-! ### Decoding an encoding -/

/-- Settles O1: the decoder finds in a command word or a frame the two parts that the encoder put there; every other encoding is a
fixed item, or the layout word itself. -/
theorem decodeEncodeRoundTrip : Obligations.DecodeEncodeRoundTrip := by
  intro i hwf
  cases i with
  | initialise a =>
    have hwide : a >>> 7 = 0#16 := by simpa [Instr.WellFormed, Instr.wellFormedB] using hwf
    simp [encode, decode, decodeCommand, hwide]
  | setInputMux | setGain | setMode | setDataRate | toVolts => simp [encode, decode, decodeCommand]
  | commit | refresh | readSample => simp [encode, decode, decodeCommand, decodeBare]
  | regWrite v => simp [encode, decode, decodeWriteFrame, PointerReg.ofAddress]
  | cfgWord w => rfl
  | _ => decide

/-! ### Encoding what was decoded -/

/-- The instruction is well formed and has this item as its encoding. -/
def EncodesTo (i : Instr) (it : Item) : Prop := i.WellFormed ∧ encode i = it

/-- A command word whose op has the number of `op` is the one made of `op` and its own operand. -/
theorem commandWord_of_commandOp {w : BitVec 20} (op : BitVec 4) (h : (commandOp w).toNat = op.toNat) :
    Item.command (commandWord op (commandOperand w)) = .command w := by
  rw [← BitVec.eq_of_toNat_eq h, commandWord_commandOp_commandOperand]

/-- A command without operand that decodes is the encoding of it: the operand bits are the zeros that the encoder puts there (R70). -/
theorem encodesTo_of_decodeBare {w : BitVec 20} {i j : Instr} (op : BitVec 4) (h : (commandOp w).toNat = op.toNat)
    (hwf : i.WellFormed) (he : encode i = .command (commandWord op 0#16))
    (hd : decodeBare i (commandOperand w) = .instr j) : EncodesTo j (.command w) := by
  obtain ⟨hzero, rfl⟩ := decodeBare_eq_instr_iff.mp hd
  exact ⟨hwf, by rw [he, ← hzero, commandWord_of_commandOp op h]⟩

/-- A command word that decodes is the encoding of what it decodes to (R69, R72). -/
theorem encodesTo_of_decodeCommand {w : BitVec 20} {i : Instr} (h : decodeCommand w = .instr i) : EncodesTo i (.command w) := by
  unfold decodeCommand at h
  split at h
  case h_1 hop =>
    split at h
    case isTrue hwide =>
      cases h
      exact ⟨by simpa [Instr.WellFormed, Instr.wellFormedB] using hwide, commandWord_of_commandOp 0x0#4 hop⟩
    case isFalse => cases h
  case h_2 hop => cases h; exact ⟨rfl, commandWord_of_commandOp 0x1#4 hop⟩
  case h_3 hop => cases h; exact ⟨rfl, commandWord_of_commandOp 0x2#4 hop⟩
  case h_4 hop => cases h; exact ⟨rfl, commandWord_of_commandOp 0x3#4 hop⟩
  case h_5 hop => cases h; exact ⟨rfl, commandWord_of_commandOp 0x4#4 hop⟩
  case h_6 hop => exact encodesTo_of_decodeBare 0x5#4 hop rfl rfl h
  case h_7 hop => exact encodesTo_of_decodeBare 0x6#4 hop rfl rfl h
  case h_8 hop => exact encodesTo_of_decodeBare 0x7#4 hop rfl rfl h
  case h_9 hop => cases h; exact ⟨rfl, commandWord_of_commandOp 0x8#4 hop⟩
  case h_10 => cases h

/-- A write frame that decodes is the encoding of what it decodes to (R66). -/
theorem encodesTo_of_decodeWriteFrame {w : BitVec 24} {i : Instr} (h : decodeWriteFrame w = .instr i) :
    EncodesTo i (.writeFrame w) := by
  unfold decodeWriteFrame at h
  split at h
  case h_1 hp =>
    cases h
    have hframe : frameWord 0x01#8 (w.extractLsb' 0 16) = w := by
      rw [show 0x01#8 = w.extractLsb' 16 8 from PointerReg.ofAddress_eq_some_iff.mp hp, frameWord_pointer_value]
    exact ⟨rfl, congrArg Item.writeFrame hframe⟩
  all_goals cases h

/-- A read frame that decodes is the encoding of what it decodes to (R67). -/
theorem encodesTo_of_decodeReadFrame {w : Byte} {i : Instr} (h : decodeReadFrame w = .instr i) : EncodesTo i (.readFrame w) := by
  unfold decodeReadFrame at h
  split at h
  case h_1 hp | h_2 hp =>
    cases h
    exact ⟨rfl, congrArg Item.readFrame (PointerReg.ofAddress_eq_some_iff.mp hp)⟩
  all_goals cases h

/-- The name of a code is the name of the word that holds it (R59, R60, R61, R62). -/
theorem encodesTo_of_named {f : Field} {n : Nat} {i : Instr} (h : f.named n = .instr i) : EncodesTo i (.value f (f.word n)) := by
  unfold Field.named at h
  split at h <;> cases h <;> exact ⟨rfl, rfl⟩

/-- A field value that decodes is the encoding of what it decodes to (R57, R64). -/
theorem encodesTo_of_decodeValue {f : Field} {v : Word} {i : Instr} (h : decodeValue f v = .instr i) :
    EncodesTo i (.value f v) := by
  unfold decodeValue at h
  split at h
  case isTrue hl => exact Field.word_code_of_legal hl ▸ encodesTo_of_named h
  case isFalse => cases h

/-- The word holds the status mask exactly where its bit 15 is 1 (R58). -/
theorem and_statusMask_eq_iff (w : Word) : w &&& statusMask = statusMask ↔ w.getLsbD 15 = true := by
  rw [← Machine.statusReads_eq, Machine.statusReads, beq_iff_eq]

/-- Of a written status word bit 15 decides (R58). -/
theorem decode_statusWritten (w : Word) :
    decode (.statusWritten w) = if w.getLsbD 15 then .instr .statusStart else .rejected .noStart := by
  simp only [decode, and_statusMask_eq_iff]

/-- Of a status word that is read bit 15 decides (R58, 42_conversion_sequencer.md R92). -/
theorem decode_statusRead (w : Word) :
    decode (.statusRead w) = .instr (if w.getLsbD 15 then .statusReady else .statusBusy) := by
  simp only [decode, and_statusMask_eq_iff, apply_ite Decoded.instr]

/-- Settles O2: form by form, the decoder's parts of an item make the item up again; a status word is told by bit 15. -/
theorem decodedWordIsEncoding : Obligations.DecodedWordIsEncoding := by
  refine ⟨fun it i hstatus h => ?_, fun w => ⟨decode_statusWritten w, decode_statusRead w⟩⟩
  cases it with
  | command w => exact encodesTo_of_decodeCommand h
  | writeFrame w => exact encodesTo_of_decodeWriteFrame h
  | readFrame w => exact encodesTo_of_decodeReadFrame h
  | layout w => cases h; exact ⟨rfl, rfl⟩
  | value f w => exact encodesTo_of_decodeValue h
  | statusWritten w => exact absurd rfl (hstatus w).1
  | statusRead w => exact absurd rfl (hstatus w).2

/-- Settles O6: each entry of the table is a value the model computes. -/
theorem powerOnWordDecoding : Obligations.PowerOnWordDecoding := by
  unfold Obligations.PowerOnWordDecoding
  decide

end Sys2Proof

namespace Sys2Proof.Machine

/-! ### The status values -/

/-- A word with bit 15 set is a start, so nothing is drawn for the busy bit (20_memory.md R42). -/
theorem leavesContinuous_start (d : Device) {w : Word} (h : w.getLsbD 15 = true) : d.leavesContinuous w = false := by
  rw [Device.leavesContinuous, h]
  rfl

/-- A configuration write with bit 15 set starts a conversion: the device is busy at once (20_memory.md R42). -/
theorem deviceWrite_start (s : State) {w : Word} (h : w.getLsbD 15 = true) :
    s.deviceWrite w = { s with dev := { s.dev with config := storedPart w, busy := true } } := by
  rw [State.deviceWrite, leavesContinuous_start _ h, if_pos h]
  rfl

/-- The trigger Commit's write always starts a conversion (42_conversion_sequencer.md R91). -/
theorem writeDone_trigger (s : State) (a : BusAddr) (v : Word) :
    s.writeDone a (v ||| statusMask) =
      { s with
        dev := { s.dev with config := storedPart (v ||| statusMask), busy := true, ptr := Reg.config.pointer }
        inputs := s.inputs.dropAnswer
        trace := s.trace ++ [.write a (writeFrame (v ||| statusMask)) .ok] } := by
  rw [writeDone_eq, deviceWrite_start _ (or_statusMask_getLsbD_fifteen v)]
  rfl

/-- The trigger Commit whose write is done ends Clean (R91). -/
theorem triggerCommit_ok {s : State} (h : Handle) (onError onOk : State → State) (ha : s.inputs.answer = .ok) :
    s.triggerCommit h onError onOk = onOk (((s.armed h).writeDone h.addr (h.cfg ||| statusMask)).setSync .clean) :=
  memWrite_ok (s := s.armed h) h.addr (h.cfg ||| statusMask) (fun t => onError (t.setSync .dirty))
    (fun t => onOk (t.setSync .clean)) ha

/-- The trigger Commit whose write fails ends Dirty (R91). -/
theorem triggerCommit_error {s : State} (h : Handle) (onError onOk : State → State)
    (ha : s.inputs.answer = .transportError) :
    s.triggerCommit h onError onOk = onError (((s.armed h).writeFailed h.addr (h.cfg ||| statusMask)).setSync .dirty) :=
  memWrite_error (s := s.armed h) h.addr (h.cfg ||| statusMask) (fun t => onError (t.setSync .dirty))
    (fun t => onOk (t.setSync .clean)) ha

/-- A written status word with bit 15 = 0 is taken off the bench, and that is all (30_encoding.md R58; log 17). -/
theorem step_of_noStart {s : State} {v : Word} {rest : List Item} (hseq : s.seq = .idle) (hev : s.inputs.event = .turn .block)
    (hb : s.bench = .statusWritten v :: rest) (hv : v.getLsbD 15 = false) :
    step s = .next { s with bench := rest, inputs := s.inputs.dropEvent } := by
  have hd : decode (.statusWritten v) = .rejected .noStart := by
    rw [decode_statusWritten, hv]
    rfl
  have hturn : turn s = .done s.dropEvent.taken := by
    rw [turn_of_presented hseq hev (presented_of_bench hb), itemTurn, hd]
    rfl
  rw [step, hturn, taken_of_bench (s := s.dropEvent) hb]
  rfl

/-- Settles O39: the start value without a handle, with the trigger's write done and with it failed, and the word that starts
nothing. -/
theorem statusStartTriggersConversion : Obligations.StatusStartTriggersConversion := by
  intro s h
  refine ⟨fun v rest hseq hev hb hv => step_of_noStart hseq hev hb hv, fun hn => ?_, fun hh ha => ?_, fun hh ha => ?_⟩
  · exact congrArg _ (withHandle_none _ hn)
  · refine congrArg _ ((withHandle_some _ hh).trans ?_)
    rw [triggerCommit_ok h _ _ ha, writeDone_trigger]
    rfl
  · refine congrArg _ ((withHandle_some _ hh).trans ?_)
    rw [triggerCommit_error h _ _ ha]
    rfl

/-- The poll test moves a state that is Polling (42_conversion_sequencer.md R92). -/
theorem pollTest_of_polling {s : State} (ready : Bool) (h : s.seq = .polling) :
    s.pollTest ready = { s with seq := if ready then .ready else .polling } := by
  simp [State.pollTest, h]

/-- The poll test leaves a state that is not Polling. -/
theorem pollTest_of_not_polling {s : State} (ready : Bool) (h : s.seq ≠ .polling) : s.pollTest ready = s := by
  simp [State.pollTest, h]

/-- A busy answer leaves every state as it is: a poll goes on (42_conversion_sequencer.md R92). -/
theorem pollTest_busy (s : State) : s.pollTest false = s := by
  by_cases h : s.seq = .polling
  · rw [pollTest_of_polling false h, if_neg Bool.false_ne_true, ← h]
  · exact pollTest_of_not_polling false h

/-- Settles O40: each value is the poll test with that answer. -/
theorem statusReadValuesSteerPoll : Obligations.StatusReadValuesSteerPoll := by
  intro s
  exact ⟨congrArg _ (pollTest_busy s), fun h => congrArg _ (pollTest_of_polling true h),
    fun h => congrArg _ (pollTest_of_not_polling true h)⟩

end Sys2Proof.Machine
end

section
/-! PROOFS. 40_field_setters.md: the masked update, what a setter can come to, its laws alone and in sequence, and that setters
and ToVolts stay off the bus. -/

namespace Sys2Proof.Machine

/-! ### The masked update -/

/-- A value inside a mask has no bit in common with what the mask has none in common with. -/
theorem and_eq_zero_of_disjoint {v m k : Word} (hv : v &&& ~~~m = 0#16) (hk : m &&& k = 0#16) : v &&& k = 0#16 := by
  rw [← and_eq_self_of_and_not_eq_zero hv, BitVec.and_assoc, hk, BitVec.and_zero]

/-- A value inside a mask lies outside every disjoint one. -/
theorem and_not_eq_self_of_disjoint {v m k : Word} (hv : v &&& ~~~m = 0#16) (hk : m &&& k = 0#16) : v &&& ~~~k = v := by
  apply and_eq_self_of_and_not_eq_zero
  rw [BitVec.not_not]
  exact and_eq_zero_of_disjoint hv hk

/-- The update leaves every part of the word that is disjoint from the mask (40_field_setters.md R75 (b)). -/
theorem maskedUpdate_and_of_disjoint {m v k : Word} (c : Word) (hv : v &&& ~~~m = 0#16) (hk : m &&& k = 0#16) :
    maskedUpdate c m v &&& k = c &&& k := by
  have hkm : k &&& ~~~m = k := and_not_eq_self_of_disjoint (BitVec.and_not_self k) (by rwa [BitVec.and_comm])
  rw [maskedUpdate, BitVec.and_or_distrib_right, and_eq_zero_of_disjoint hv hk, BitVec.or_zero, BitVec.and_assoc,
    BitVec.and_comm (~~~m), hkm]

/-- Under the mask the updated word reads the value (R75 (a)). -/
theorem maskedUpdate_and_mask {m v : Word} (c : Word) (hv : v &&& ~~~m = 0#16) : maskedUpdate c m v &&& m = v := by
  have hm : ~~~m &&& m = 0#16 := by rw [BitVec.and_comm]; exact BitVec.and_not_self m
  rw [maskedUpdate, BitVec.and_or_distrib_right, BitVec.and_assoc, hm, BitVec.and_zero, BitVec.zero_or,
    and_eq_self_of_and_not_eq_zero hv]

/-- Outside the mask the word is the old one (R75 (b)). -/
theorem maskedUpdate_and_not_mask {m v : Word} (c : Word) (hv : v &&& ~~~m = 0#16) :
    maskedUpdate c m v &&& ~~~m = c &&& ~~~m :=
  maskedUpdate_and_of_disjoint c hv (BitVec.and_not_self m)

/-- Of two updates under one mask the last wins (R83 (3)). -/
theorem maskedUpdate_maskedUpdate {m v : Word} (c w : Word) (hv : v &&& ~~~m = 0#16) :
    maskedUpdate (maskedUpdate c m v) m w = maskedUpdate c m w := by
  rw [maskedUpdate, maskedUpdate_and_not_mask c hv, maskedUpdate]

/-- Updates under disjoint masks commute (R83 (5)). -/
theorem maskedUpdate_comm {m n v w : Word} (c : Word) (hv : v &&& ~~~m = 0#16) (hw : w &&& ~~~n = 0#16)
    (hmn : m &&& n = 0#16) : maskedUpdate (maskedUpdate c m v) n w = maskedUpdate (maskedUpdate c n w) m v := by
  have hvn : v &&& ~~~n = v := and_not_eq_self_of_disjoint hv hmn
  have hwm : w &&& ~~~m = w := and_not_eq_self_of_disjoint hw (by rwa [BitVec.and_comm])
  simp only [maskedUpdate, BitVec.and_or_distrib_right, hvn, hwm]
  ac_rfl

/-- Two fields have no bit in common (30_encoding.md R56). -/
theorem mask_and_mask {f g : Field} (h : f ≠ g) : f.mask &&& g.mask = 0#16 := by
  revert h
  cases f <;> cases g <;> decide

/-- A field has no bit in common with the status bit and the comparator bits (30_encoding.md R56). -/
theorem mask_and_status_comparator (f : Field) : f.mask &&& 0x801F#16 = 0#16 := by
  cases f <;> decide

/-! ### What a setter can come to -/

/-- The dispatch hands a field's setter to the one masked setter of that field (R78). -/
theorem exec_setter (f : Field) (v : Word) (s : State) : exec (f.setter v) s = .next (s.setField f v) := by
  cases f <;> rfl

/-- The end of a setter that is accepted: the mirror is `c`, `SYNC` is Dirty, `ERR` is ERR_OK (R78). -/
def State.accepted (h : Handle) (c : Word) (s : State) : State :=
  { s with handle := some { h with cfg := c }, sync := .dirty, err := .ok }

/-- A setter is refused before a handle exists (60_exceptions.md R123). -/
theorem setField_none {s : State} (f : Field) (v : Word) (hn : s.handle = none) : s.setField f v = s.raise .noHandle :=
  withHandle_none _ hn

/-- A setter with an operand outside its enumeration ends with InvalidFieldValue (R76). -/
theorem setField_illegal {s : State} {h : Handle} {f : Field} {v : Word} (hh : s.handle = some h) (hl : f.legal v ≠ true) :
    s.setField f v = s.raise .invalidFieldValue := by
  rw [setField_some f v hh, if_neg hl]

/-- A setter with a legal operand updates its field in the mirror (R75, R78). -/
theorem setField_legal {s : State} {h : Handle} {f : Field} {v : Word} (hh : s.handle = some h) (hl : f.legal v = true) :
    s.setField f v = s.accepted h (maskedUpdate h.cfg f.mask v) := by
  rw [setField_some f v hh, if_pos hl]
  rfl

/-- The inversion of a setter: without a handle, with an illegal operand, with a legal one. -/
theorem setField_cases (s : State) (f : Field) (v : Word) :
    (s.handle = none ∧ s.setField f v = s.raise .noHandle) ∨
      (∃ h, s.handle = some h ∧ f.legal v ≠ true ∧ s.setField f v = s.raise .invalidFieldValue) ∨
      ∃ h, s.handle = some h ∧ f.legal v = true ∧ s.setField f v = s.accepted h (maskedUpdate h.cfg f.mask v) := by
  cases hh : s.handle with
  | none => exact .inl ⟨rfl, setField_none f v hh⟩
  | some h =>
    by_cases hl : f.legal v = true
    · exact .inr (.inr ⟨h, rfl, hl, setField_legal hh hl⟩)
    · exact .inr (.inl ⟨h, rfl, hl, setField_illegal hh hl⟩)

/-! ### The laws of the setters -/

/-- Settles O17: a legal operand lies inside the mask, so under the mask the updated mirror reads it, and outside the mask the old
mirror. -/
theorem setterReadBackAndIsolation : Obligations.SetterReadBackAndIsolation := by
  intro f v s t h hh hl he
  obtain ⟨hv, -⟩ := Field.legal_iff.mp hl
  rw [exec_setter, setField_legal hh hl] at he
  injection he with he
  subst he
  exact ⟨_, rfl, rfl, maskedUpdate_and_mask h.cfg hv, maskedUpdate_and_not_mask h.cfg hv⟩

/-- Two accepted setters, one after the other, update the mirror twice. -/
theorem setField_setField {s : State} {h : Handle} {f g : Field} {v w : Word} (hh : s.handle = some h)
    (hv : f.legal v = true) (hw : g.legal w = true) :
    (s.setField f v).setField g w = s.accepted h (maskedUpdate (maskedUpdate h.cfg f.mask v) g.mask w) := by
  rw [setField_legal hh hv, setField_legal (s := s.accepted h _) rfl hw]
  rfl

/-- A second setter of the same field gives what it gives from the start (R83 (3)). -/
theorem setField_setField_same {s : State} {h : Handle} {f : Field} {v w : Word} (hh : s.handle = some h)
    (hv : f.legal v = true) (hw : f.legal w = true) : (s.setField f v).setField f w = s.setField f w := by
  obtain ⟨hmask, -⟩ := Field.legal_iff.mp hv
  rw [setField_setField hh hv hw, maskedUpdate_maskedUpdate h.cfg w hmask, setField_legal hh hw]

/-- Settles O18: the second update of a field overwrites the first, and the same write twice is the case of equal operands. -/
theorem setterLastWriteWins : Obligations.SetterLastWriteWins := by
  intro f v w s t h hh hv hw he
  rw [exec_setter] at he
  injection he with he
  subst he
  simp only [exec_setter]
  exact ⟨congrArg _ (setField_setField_same hh hv hw), congrArg _ (setField_setField_same hh hv hv)⟩

/-- Setters of two fields commute (R83 (5)). -/
theorem setField_comm {s : State} {h : Handle} {f g : Field} {v w : Word} (hfg : f ≠ g) (hh : s.handle = some h)
    (hv : f.legal v = true) (hw : g.legal w = true) :
    (s.setField f v).setField g w = (s.setField g w).setField f v := by
  obtain ⟨hvm, -⟩ := Field.legal_iff.mp hv
  obtain ⟨hwm, -⟩ := Field.legal_iff.mp hw
  rw [setField_setField hh hv hw, setField_setField hh hw hv, maskedUpdate_comm h.cfg hvm hwm (mask_and_mask hfg)]

/-! ### Setters and ToVolts stay off the bus -/

/-- From `s` to `t` no bus call is made and no draw is taken, and the device and `SAMPLE` are left (R77, 43_voltage_scaling.md R113). -/
def OffBus (s t : State) : Prop := t.trace = s.trace ∧ t.dev = s.dev ∧ t.sample = s.sample ∧ t.inputs = s.inputs

/-- A setter makes no bus call (R77). -/
theorem setField_offBus (s : State) (f : Field) (v : Word) : OffBus s (s.setField f v) := by
  rcases setField_cases s f v with ⟨-, e⟩ | ⟨h, -, -, e⟩ | ⟨h, -, -, e⟩ <;> rw [e] <;> exact ⟨rfl, rfl, rfl, rfl⟩

/-- The error codes of a setter (60_exceptions.md R125). -/
theorem setField_err (s : State) (f : Field) (v : Word) :
    (s.setField f v).err = .ok ∨ (s.setField f v).err = .noHandle ∨ (s.setField f v).err = .invalidFieldValue := by
  rcases setField_cases s f v with ⟨-, e⟩ | ⟨h, -, -, e⟩ | ⟨h, -, -, e⟩ <;> rw [e]
  · exact .inr (.inl rfl)
  · exact .inr (.inr rfl)
  · exact .inl rfl

/-- The inversion of ToVolts: without a handle, with a reserved gain, with a gain (43_voltage_scaling.md R106, R112). -/
theorem toVolts_cases (s : State) (raw : Word) :
    (s.handle = none ∧ s.toVolts raw = s.raise .noHandle) ∨
      (∃ h, s.handle = some h ∧ fullScale (gainCode h.cfg) = none ∧ s.toVolts raw = s.raise .reservedGain) ∨
      ∃ h fsr, s.handle = some h ∧ fullScale (gainCode h.cfg) = some fsr ∧
        s.toVolts raw =
          (s.setVolts
            { exact := exactVolts (isNegative raw) fsr (magnitude raw)
              float := floatVolts s.float (isNegative raw) fsr (magnitude raw) }).respond := by
  cases hh : s.handle with
  | none => exact .inl ⟨rfl, withHandle_none _ hh⟩
  | some h =>
    rw [State.toVolts, withHandle_some _ hh]
    cases hg : fullScale (gainCode h.cfg) with
    | none => exact .inr (.inl ⟨h, rfl, hg, rfl⟩)
    | some fsr => exact .inr (.inr ⟨h, fsr, rfl, hg, rfl⟩)

/-- ToVolts makes no bus call (43_voltage_scaling.md R113). -/
theorem toVolts_offBus (s : State) (raw : Word) : OffBus s (s.toVolts raw) := by
  rcases toVolts_cases s raw with ⟨-, e⟩ | ⟨h, -, -, e⟩ | ⟨h, fsr, -, -, e⟩ <;> rw [e] <;> exact ⟨rfl, rfl, rfl, rfl⟩

/-- The error codes of ToVolts (60_exceptions.md R125). -/
theorem toVolts_err (s : State) (raw : Word) :
    (s.toVolts raw).err = .ok ∨ (s.toVolts raw).err = .noHandle ∨ (s.toVolts raw).err = .reservedGain := by
  rcases toVolts_cases s raw with ⟨-, e⟩ | ⟨h, -, -, e⟩ | ⟨h, fsr, -, -, e⟩ <;> rw [e]
  · exact .inr (.inl rfl)
  · exact .inr (.inr rfl)
  · exact .inl rfl

/-- The five operations without a bus call are the setters and ToVolts (R77, 43_voltage_scaling.md R113). -/
theorem setter_or_toVolts_of_mem {i : Instr} {v : Word}
    (h : i ∈ [Instr.setInputMux v, .setGain v, .setMode v, .setDataRate v, .toVolts v]) :
    (∃ f : Field, i = f.setter v) ∨ i = .toVolts v := by
  simp only [List.mem_cons, List.not_mem_nil, or_false] at h
  rcases h with rfl | rfl | rfl | rfl | rfl
  · exact .inl ⟨.mux, rfl⟩
  · exact .inl ⟨.pga, rfl⟩
  · exact .inl ⟨.mode, rfl⟩
  · exact .inl ⟨.dr, rfl⟩
  · exact .inr rfl

theorem setter_ne_toVolts (f : Field) (v w : Word) : f.setter v ≠ .toVolts w := by
  cases f <;> simp [Field.setter]

/-- Settles O48: the setters are one masked setter, and each way a setter or ToVolts can end stays off the bus. -/
theorem pureOperationsNeverUseBus : Obligations.PureOperationsNeverUseBus := by
  intro v i s t hi he
  rcases setter_or_toVolts_of_mem hi with ⟨f, rfl⟩ | rfl
  · rw [exec_setter] at he
    injection he with he
    subst he
    obtain ⟨htrace, hdev, hsample, hinputs⟩ := setField_offBus s f v
    rw [if_neg (setter_ne_toVolts f v v)]
    exact ⟨htrace, hdev, hsample, hinputs, setField_err s f v⟩
  · injection he with he
    subst he
    obtain ⟨htrace, hdev, hsample, hinputs⟩ := toVolts_offBus s v
    rw [if_pos rfl]
    exact ⟨htrace, hdev, hsample, hinputs, toVolts_err s v⟩

/-! ### Sequences of setters -/

@[simp] theorem runSetters_nil (s : State) : runSetters [] s = .next s := rfl

/-- No setter stops a sequence: the rest runs from the state the first one leaves. -/
@[simp] theorem runSetters_cons (f : Field) (v : Word) (l : List (Field × Word)) (s : State) :
    runSetters ((f, v) :: l) s = runSetters l (s.setField f v) := by
  rw [runSetters, exec_setter]

/-- Settles O19: both orders are the two setters one after the other, and those commute. -/
theorem settersOfTwoFieldsCommute : Obligations.SettersOfTwoFieldsCommute := by
  intro f g v w s h hfg hh hv hw
  simp [setField_comm hfg hh hv hw]

/-- A setter, accepted or rejected, leaves the address, the status bit and the comparator bits (R83 (6), (7)). -/
theorem setField_handle {s : State} {h : Handle} (f : Field) (v : Word) (hh : s.handle = some h) :
    ∃ h', (s.setField f v).handle = some h' ∧ h'.addr = h.addr ∧ h'.cfg &&& 0x801F#16 = h.cfg &&& 0x801F#16 := by
  by_cases hl : f.legal v = true
  · obtain ⟨hv, -⟩ := Field.legal_iff.mp hl
    rw [setField_legal hh hl]
    exact ⟨_, rfl, rfl, maskedUpdate_and_of_disjoint h.cfg hv (mask_and_status_comparator f)⟩
  · rw [setField_illegal hh hl]
    exact ⟨h, hh, rfl, rfl⟩

/-- Settles O20, by induction on the sequence: each setter keeps what the whole sequence is to keep. -/
theorem setterSequencesKeepStatusAndComparator : Obligations.SetterSequencesKeepStatusAndComparator := by
  intro l
  induction l with
  | nil => exact fun s h hh => ⟨s, h, rfl, hh, rfl, rfl, rfl, rfl, rfl⟩
  | cons p l ih =>
    obtain ⟨f, v⟩ := p
    intro s h hh
    obtain ⟨h₁, hh₁, haddr₁, hcfg₁⟩ := setField_handle f v hh
    obtain ⟨htrace₁, hdev₁, hsample₁, -⟩ := setField_offBus s f v
    obtain ⟨t, h', hrun, hh', haddr, hcfg, hdev, htrace, hsample⟩ := ih (s.setField f v) h₁ hh₁
    exact ⟨t, h', (runSetters_cons f v l s).trans hrun, hh', haddr.trans haddr₁, hcfg.trans hcfg₁, hdev.trans hdev₁,
      htrace.trans htrace₁, hsample.trans hsample₁⟩

/-! ### The whole next state of each setter -/

/-- The op of a field's setter in the command word (30_encoding.md R70). -/
def setterOp : Field → BitVec 4
  | .mux => 0x1#4
  | .pga => 0x2#4
  | .mode => 0x3#4
  | .dr => 0x4#4

/-- The command word of a setter is its op before its operand (30_encoding.md R69). -/
theorem encode_setter (f : Field) (v : Word) : encode (f.setter v) = .command (setterOp f ++ v) := by
  rw [← commandWord_eq_append]
  cases f <;> rfl

/-- The command word of a setter decodes to it (30_encoding.md R69, R70). -/
theorem decode_setterOp (f : Field) (v : Word) : decode (.command (setterOp f ++ v)) = .instr (f.setter v) := by
  rw [← encode_setter]
  exact decodeEncodeRoundTrip _ (by cases f <;> rfl)

/-- The code of a field never exceeds the one whose bits are all 1 (30_encoding.md R57). -/
theorem code_le_code_mask (f : Field) (v : Word) : f.code v ≤ f.code f.mask := by
  simp only [Field.code, BitVec.and_self, BitVec.toNat_ushiftRight, BitVec.toNat_and, Nat.shiftRight_eq_div_pow]
  exact Nat.div_le_div_right Nat.and_le_right

/-- Where every code of a field is in its enumeration, an operand is legal as soon as it lies inside the mask (R64). -/
theorem legal_iff_of_all_codes {f : Field} {outside : Word} (v : Word) (hf : f.code f.mask ≤ f.maxCode)
    (ho : ~~~f.mask = outside) : f.legal v = true ↔ v &&& outside = 0#16 := by
  rw [Field.legal_iff, ho, and_iff_left ((code_le_code_mask f v).trans hf)]

/-- A gain operand is legal where it lies inside the mask and is none of the two reserved words (R64, R80). -/
theorem legal_pga_iff {v : Word} :
    Field.pga.legal v = true ↔ v &&& 0xF1FF#16 = 0#16 ∧ v ≠ 0x0C00#16 ∧ v ≠ 0x0E00#16 := by
  constructor
  · intro hl
    exact ⟨(Field.legal_iff.mp hl).1, by rintro rfl; revert hl; decide, by rintro rfl; revert hl; decide⟩
  · rintro ⟨hv, h6, h7⟩
    have hword : Field.pga.word (Field.pga.code v) = v := by
      rw [Field.word_code]
      exact and_eq_self_of_and_not_eq_zero hv
    have hle : Field.pga.code v ≤ 7 := code_le_code_mask .pga v
    have hne6 : Field.pga.code v ≠ 6 := fun hc => h6 (by rw [← hword, hc]; rfl)
    have hne7 : Field.pga.code v ≠ 7 := fun hc => h7 (by rw [← hword, hc]; rfl)
    exact Field.legal_iff.mpr ⟨hv, show Field.pga.code v ≤ 5 by omega⟩

/-- The whole effect of the setter of `f` on `s`, where `outside` is the complement of its mask and its operand is legal where
`legal` holds (R76, R78). -/
def SetterEffect (f : Field) (outside v : Word) (s : State) (legal : Prop) : Prop :=
  decode (.command (setterOp f ++ v)) = .instr (f.setter v) ∧
    (s.handle = none → exec (f.setter v) s = .next { s with err := .noHandle, seq := .idle }) ∧
    (∀ h, s.handle = some h → ¬ legal → exec (f.setter v) s = .next { s with err := .invalidFieldValue, seq := .idle }) ∧
    ∀ h, s.handle = some h → legal →
      exec (f.setter v) s =
        .next { s with handle := some { h with cfg := (h.cfg &&& outside) ||| v }, sync := .dirty, err := .ok }

/-- Every setter has its effect, whatever its legality test amounts to. -/
theorem setterEffect_of_legal_iff {f : Field} {outside v : Word} {legal : Prop} (s : State) (ho : ~~~f.mask = outside)
    (hl : f.legal v = true ↔ legal) : SetterEffect f outside v s legal := by
  subst ho
  refine ⟨decode_setterOp f v, fun hn => ?_, fun h hh hno => ?_, fun h hh hyes => ?_⟩ <;> rw [exec_setter]
  · rw [setField_none f v hn]; rfl
  · rw [setField_illegal hh (mt hl.mp hno)]; rfl
  · rw [setField_legal hh (hl.mpr hyes)]; rfl

/-- Settles O12: all eight codes are legal, so only bits outside the mask are not. -/
theorem setInputMuxEffect : Obligations.SetInputMuxEffect :=
  fun v s => setterEffect_of_legal_iff (f := .mux) s rfl (legal_iff_of_all_codes v (by decide) rfl)

/-- Settles O13: besides the bits outside the mask the two reserved words are illegal. -/
theorem setGainEffect : Obligations.SetGainEffect := by
  intro v s
  obtain ⟨hdecode, hnone, hillegal, hlegal⟩ := setterEffect_of_legal_iff s rfl (legal_pga_iff (v := v))
  refine ⟨hdecode, hnone, fun h hh hno => hillegal h hh ?_, fun h hh hv h6 h7 => hlegal h hh ⟨hv, h6, h7⟩⟩
  rintro ⟨hv, h6, h7⟩
  rcases hno with hout | he | he
  · exact hout hv
  · exact h6 he
  · exact h7 he

/-- Settles O14: both codes are legal. -/
theorem setModeEffect : Obligations.SetModeEffect :=
  fun v s => setterEffect_of_legal_iff (f := .mode) s rfl (legal_iff_of_all_codes v (by decide) rfl)

/-- Settles O15: all eight codes are legal. -/
theorem setDataRateEffect : Obligations.SetDataRateEffect :=
  fun v s => setterEffect_of_legal_iff (f := .dr) s rfl (legal_iff_of_all_codes v (by decide) rfl)

end Sys2Proof.Machine
end

section
/-! PROOFS. 41_register_io.md: the whole next state of Initialize, Commit and Refresh, done and failed, the laws of Commit and Refresh
one after the other, and what writes the configuration of the device. -/

namespace Sys2Proof.Machine

/-! ### Initialize -/

/-- A 7-bit address has no bit outside Initialize's operand (30_encoding.md R70). -/
theorem setWidth_ushiftRight_seven (a : BusAddr) : a.setWidth 16 >>> 7 = 0#16 := by
  ext i hi
  simp

/-- Initialize with a 7-bit address runs at that address (R84). -/
theorem exec_initialise_setWidth (a : BusAddr) (s : State) : exec (.initialise (a.setWidth 16)) s = .next (s.initialise a) := by
  have ha : (a.setWidth 16).setWidth 7 = a := BitVec.setWidth_setWidth_of_le a (by decide)
  refine congrArg _ ((if_pos (setWidth_ushiftRight_seven a)).trans ?_)
  rw [ha]

/-- Initialize with an operand of more than 7 bits ends with IllegalCommand (R84; log 18). -/
theorem exec_initialise_wide {w : Word} (hw : w >>> 7 ≠ 0#16) (s : State) :
    exec (.initialise w) s = .next (s.raise .illegalCommand) :=
  congrArg _ (if_neg hw)

/-- Settles O21: the read that Initialize makes is done, and the word read is bound to the address. -/
theorem initializeBindsHandle : Obligations.InitializeBindsHandle := by
  intro a s ha
  rw [exec_initialise_setWidth, State.initialise, memRead_ok _ _ _ _ ha]
  rfl

/-- Settles O22: a read that fails leaves but its record and the error, and a wide operand makes no read. -/
theorem initializeFailureKeepsHandle : Obligations.InitializeFailureKeepsHandle := by
  intro s
  constructor
  · intro a ha
    rw [exec_initialise_setWidth, State.initialise, memRead_error _ _ _ _ ha]
    rfl
  · exact fun w hw => exec_initialise_wide hw s

/-! ### Commit -/

/-- The end of a Commit that is done (R85). -/
def State.committed (h : Handle) (s : State) : State := ((s.writeDone h.addr h.cfg).setSync .clean).respond

/-- Commit whose write the transport answers with success is done (R85). -/
theorem exec_commit_ok {s : State} {h : Handle} (hh : s.handle = some h) (ha : s.inputs.answer = .ok) :
    exec .commit s = .next (s.committed h) :=
  congrArg _ ((withHandle_some _ hh).trans (memWrite_ok _ _ _ _ ha))

/-- Commit whose write fails ends Dirty (R85). -/
theorem exec_commit_error {s : State} {h : Handle} (hh : s.handle = some h) (ha : s.inputs.answer = .transportError) :
    exec .commit s = .next (((s.writeFailed h.addr h.cfg).setSync .dirty).raise .transportError) :=
  congrArg _ ((withHandle_some _ hh).trans (memWrite_error _ _ _ _ ha))

/-- Settles O23: Commit is its one write, then the flag and the error code. -/
theorem commitEffect : Obligations.CommitEffect := by
  intro s h hh
  constructor <;> intro ha
  · rw [exec_commit_ok hh ha, State.committed, writeDone_eq]
    rfl
  · rw [exec_commit_error hh ha]
    rfl

/-! ### Refresh -/

/-- The end of a Refresh that is done (R86). -/
def State.refreshed (h : Handle) (s : State) : State :=
  (((s.readDone h.addr .config).setCfg h (s.dropAnswer.deviceRead .config)).setSync .clean).respond

/-- Refresh whose read the transport answers with success is done (R86). -/
theorem exec_refresh_ok {s : State} {h : Handle} (hh : s.handle = some h) (ha : s.inputs.answer = .ok) :
    exec .refresh s = .next (s.refreshed h) :=
  congrArg _ ((withHandle_some _ hh).trans (memRead_ok _ _ _ _ ha))

/-- Refresh whose read fails leaves mirror and flag (R86). -/
theorem exec_refresh_error {s : State} {h : Handle} (hh : s.handle = some h) (ha : s.inputs.answer = .transportError) :
    exec .refresh s = .next ((s.readFailed h.addr .config).raise .transportError) :=
  congrArg _ ((withHandle_some _ hh).trans (memRead_error _ _ _ _ ha))

/-- Settles O24: Refresh is its one read, then mirror, flag and error code. -/
theorem refreshEffect : Obligations.RefreshEffect := by
  intro s h hh
  constructor <;> intro ha
  · rw [exec_refresh_ok hh ha]
    rfl
  · rw [exec_refresh_error hh ha]
    rfl

/-! ### Commit and Refresh one after the other -/

/-- A Commit that ends with ERR_OK is done. -/
theorem eq_committed_of_err_ok {s t : State} {h : Handle} (hh : s.handle = some h) (he : exec .commit s = .next t)
    (hok : t.err = .ok) : t = s.committed h := by
  cases ha : s.inputs.answer with
  | ok =>
    rw [exec_commit_ok hh ha] at he
    injection he with he
    exact he.symm
  | transportError =>
    rw [exec_commit_error hh ha] at he
    injection he with he
    subst he
    cases hok

/-- A Refresh that ends with ERR_OK is done. -/
theorem eq_refreshed_of_err_ok {s t : State} {h : Handle} (hh : s.handle = some h) (he : exec .refresh s = .next t)
    (hok : t.err = .ok) : t = s.refreshed h := by
  cases ha : s.inputs.answer with
  | ok =>
    rw [exec_refresh_ok hh ha] at he
    injection he with he
    exact he.symm
  | transportError =>
    rw [exec_refresh_error hh ha] at he
    injection he with he
    subst he
    cases hok

@[simp] theorem State.committed_handle (s : State) (h : Handle) : (s.committed h).handle = s.handle := rfl

@[simp] theorem State.committed_sync (s : State) (h : Handle) : (s.committed h).sync = .clean := rfl

/-- After a Commit the device stores what the mirror holds in bits 14..0 (R85). -/
@[simp] theorem State.committed_config (s : State) (h : Handle) : (s.committed h).dev.config = storedPart h.cfg :=
  writeDone_config s h.addr h.cfg

/-- The busy bit after a Commit: set by a start, drawn where continuous mode is left, else kept (20_memory.md R42). -/
theorem State.committed_busy (s : State) (h : Handle) :
    (s.committed h).dev.busy =
      if h.cfg.getLsbD 15 then true
      else if s.dev.leavesContinuous h.cfg then s.inputs.dropAnswer.bit
      else s.dev.busy := by
  rw [State.committed, writeDone_eq]
  rfl

/-- After a Refresh the mirror holds the stored bits and the status (R86). -/
@[simp] theorem State.refreshed_handle (s : State) (h : Handle) :
    (s.refreshed h).handle = some { h with cfg := statusWord s.dropAnswer.statusBit s.dev.config } := rfl

/-- A Refresh leaves `HW.CONFIG` (20_memory.md R43). -/
@[simp] theorem State.refreshed_config (s : State) (h : Handle) : (s.refreshed h).dev.config = s.dev.config := rfl

/-- A Refresh leaves the busy bit (20_memory.md R43). -/
@[simp] theorem State.refreshed_busy (s : State) (h : Handle) : (s.refreshed h).dev.busy = s.dev.busy := rfl

/-- A device in single-shot mode has no continuous mode to leave, so nothing is drawn for the busy bit (20_memory.md R42). -/
theorem leavesContinuous_singleShot {d : Device} (hd : d.singleShot = true) (w : Word) : d.leavesContinuous w = false := by
  simp [Device.leavesContinuous, hd]

/-- In single-shot mode the status bit is the idle status (20_memory.md R43). -/
theorem statusBit_singleShot {s : State} (hs : s.dev.singleShot = true) : s.statusBit = !s.dev.busy := if_pos hs

@[simp] theorem statusWord_getLsbD_fifteen (b : Bool) (c : Stored) : (statusWord b c).getLsbD 15 = b := by
  rw [← statusReads_eq, statusReads_statusWord]

/-- Bits 14..0 of a word are what the device would store of it (10_state.md R23). -/
theorem and_eq_setWidth_storedPart (w : Word) : w &&& 0x7FFF#16 = (storedPart w).setWidth 16 := by
  apply BitVec.eq_of_getLsbD_eq
  intro i hi
  simp only [storedPart]
  interval_cases i <;> simp

/-- Words of which the device stores the same agree in bits 14..0. -/
theorem and_eq_and_of_storedPart_eq {v w : Word} (h : storedPart v = storedPart w) : v &&& 0x7FFF#16 = w &&& 0x7FFF#16 := by
  rw [and_eq_setWidth_storedPart, and_eq_setWidth_storedPart, h]

/-- A Commit of the word that a Refresh read in single-shot mode leaves a conversion in progress: bit 15 starts one where the device
was idle, and where it was busy nothing touches the busy bit (R87). -/
theorem refreshed_committed_busy {s : State} (h : Handle) (hs : s.dev.singleShot = true) :
    ((s.refreshed h).committed { h with cfg := statusWord s.dropAnswer.statusBit s.dev.config }).dev.busy = true := by
  have hstart : s.dropAnswer.statusBit = !s.dev.busy := statusBit_singleShot (s := s.dropAnswer) hs
  have hstays (w : Word) : (s.refreshed h).dev.leavesContinuous w = false := leavesContinuous_singleShot hs w
  rw [State.committed_busy, statusWord_getLsbD_fifteen, hstart, hstays]
  cases hb : s.dev.busy <;> simp [hb]

/-- In single-shot mode a Refresh after a Commit reads bit 15 as 0 after a start, else as the idle status (R87). -/
theorem committed_statusBit {s : State} {h : Handle} (hmode : h.cfg.getLsbD 8 = true) :
    (s.committed h).dropAnswer.statusBit = if h.cfg.getLsbD 15 then false else !(s.committed h).dev.busy := by
  have hsingle : (s.committed h).dev.singleShot = true := by
    rw [Device.singleShot, State.committed_config, storedPart_getLsbD_eight, hmode]
  rw [statusBit_singleShot (s := (s.committed h).dropAnswer) hsingle]
  split
  next hstart => simp [State.committed_busy, hstart]
  next => rfl

/-- Settles O25: a Commit makes the stored bits those of the mirror, a Refresh makes those of the mirror the stored ones, and neither
changes the other's side. -/
theorem commitRefreshPairLaws : Obligations.CommitRefreshPairLaws := by
  intro s t u h hh ht hu
  refine ⟨fun hmode hc hr => ?_, fun hmode hr hc => ?_, fun hr hr' => ?_⟩
  · obtain rfl := eq_committed_of_err_ok hh hc ht
    obtain rfl := eq_refreshed_of_err_ok ((s.committed_handle h).trans hh) hr hu
    refine ⟨_, State.refreshed_handle _ _, rfl, and_eq_and_of_storedPart_eq (by simp), ?_, State.committed_config s h⟩
    rw [statusWord_getLsbD_fifteen, committed_statusBit hmode]
  · obtain rfl := eq_refreshed_of_err_ok hh hr ht
    obtain rfl := eq_committed_of_err_ok (State.refreshed_handle s h) hc hu
    exact ⟨by simp, refreshed_committed_busy h hmode, rfl⟩
  · obtain rfl := eq_refreshed_of_err_ok hh hr ht
    obtain rfl := eq_refreshed_of_err_ok (State.refreshed_handle s h) hr' hu
    exact ⟨_, _, State.refreshed_handle _ _, State.refreshed_handle _ _, and_eq_and_of_storedPart_eq (by simp)⟩

/-! ### What writes the configuration of the device -/

/-- An instruction leaves `HW.CONFIG`, or writes on the bus. -/
theorem Effect.config_cases {i : Instr} {s t : State} (ht : Effect i s t) :
    t.dev.config = s.dev.config ∨ ∃ a bytes answer, t.trace = s.trace ++ [.write a bytes answer] := by
  cases ht with
  | frameFailed | frameWritten | commitFailed | committed | triggerFailed | triggered | started => exact .inr ⟨_, _, _, rfl⟩
  | _ => exact .inl (by simp)

/-- Settles O51: of the effects of a step only a register write and the device reset touch `HW.CONFIG`. -/
theorem deviceConfigChangesOnlyByWrite : Obligations.DeviceConfigChangesOnlyByWrite := by
  intro s t hst hne
  cases step_effect hst with
  | item _ _ _ _ _ _ ht | sampling _ _ ht => exact .inr (by simpa using ht.config_cases.resolve_left (by simpa using hne))
  | deviceReset he => exact .inl he
  | _ => exact absurd (by simp) hne

end Sys2Proof.Machine
end

section
/-! PROOFS. 42_conversion_sequencer.md: what each transition of ReadSample does, the two device steps, what every step keeps of the
sequencer and of its poll bound, and whole runs of ReadSample. -/

namespace Sys2Proof.Machine

/-! ### From Idle: the trigger or the continuous path -/

/-- The end of the trigger Commit of ReadSample whose write is done (R91). -/
def State.triggered (h : Handle) (s : State) : State :=
  (((s.armed h).writeDone h.addr (h.cfg ||| statusMask)).setSync .clean).setSeq .triggered

theorem sampleStep_of_idle {s : State} {h : Handle} (hh : s.handle = some h) (hs : s.seq = .idle) :
    s.sampleStep = s.startSample h := by
  rw [State.sampleStep, withHandle_some _ hh, hs]

/-- In single-shot mode ReadSample begins with the trigger Commit (R90, R91). -/
theorem sampleStep_trigger {s : State} {h : Handle} (hh : s.handle = some h) (hs : s.seq = .idle)
    (hm : h.cfg.getLsbD 8 = true) :
    s.sampleStep = s.triggerCommit h (fun t => t.raise .transportError) (fun t => t.setSeq .triggered) := by
  rw [sampleStep_of_idle hh hs, State.startSample, singleShot_eq, if_pos hm]

/-- In continuous mode ReadSample goes to Ready with no bus call (R95). -/
theorem sampleStep_continuous {s : State} {h : Handle} (hh : s.handle = some h) (hs : s.seq = .idle)
    (hm : h.cfg.getLsbD 8 = false) : s.sampleStep = s.setSeq .ready := by
  rw [sampleStep_of_idle hh hs, State.startSample, singleShot_eq, hm, if_neg Bool.false_ne_true]

/-- The trigger Commit whose write is done leaves the device converting (R91, R42). -/
theorem sampleStep_triggered {s : State} {h : Handle} (hh : s.handle = some h) (hs : s.seq = .idle)
    (hm : h.cfg.getLsbD 8 = true) (ha : s.inputs.answer = .ok) : s.sampleStep = s.triggered h :=
  (sampleStep_trigger hh hs hm).trans (triggerCommit_ok h _ _ ha)

/-- All that the trigger changes. -/
theorem triggered_eq (s : State) (h : Handle) :
    s.triggered h =
      { s with
        handle := some { h with cfg := h.cfg ||| statusMask }
        seq := .triggered
        sync := .clean
        dev := { s.dev with config := storedPart (h.cfg ||| statusMask), busy := true, ptr := Reg.config.pointer }
        inputs := s.inputs.dropAnswer
        trace := s.trace ++ [.write h.addr (writeFrame (h.cfg ||| statusMask)) .ok] } := by
  rw [State.triggered, writeDone_trigger]
  rfl

/-- An error found in Idle leaves `SEQ` (R127). -/
theorem raise_of_idle {s : State} (e : Err) (hs : s.seq = .idle) : s.raise e = { s with err := e } := by
  rw [State.raise, ← hs]

/-- Settles O29: from Idle in single-shot mode the transition is the trigger Commit, done or failed. -/
theorem readSampleTriggersConversion : Obligations.ReadSampleTriggersConversion := by
  intro s h hh hs hm
  refine ⟨fun ha => ?_, fun ha => ?_⟩
  · exact congrArg _ ((sampleStep_triggered hh hs hm ha).trans (triggered_eq s h))
  · refine congrArg _ (((sampleStep_trigger hh hs hm).trans (triggerCommit_error h _ _ ha)).trans ?_)
    exact raise_of_idle .transportError hs

/-! ### From Triggered -/

/-- A poll loop begins with `n = 0` (R88). -/
theorem sampleStep_startPolling {s : State} {h : Handle} (hh : s.handle = some h) (hs : s.seq = .triggered) :
    s.sampleStep = s.startPolling := by
  rw [State.sampleStep, withHandle_some _ hh, hs]

/-- Settles O30: neither the continuous path nor the beginning of the poll loop makes a bus call. -/
theorem readSampleSilentTransitions : Obligations.ReadSampleSilentTransitions := by
  intro s h hh
  exact ⟨fun hs hm => congrArg _ (sampleStep_continuous hh hs hm), fun hs => congrArg _ (sampleStep_startPolling hh hs)⟩

/-! ### From Polling -/

/-- The end of a poll whose Refresh is done (R92). -/
def State.polled (h : Handle) (s : State) : State :=
  (((s.readDone h.addr .config).setCfg h (s.dropAnswer.deviceRead .config)).setSync .clean).countPoll.pollTest
    s.dropAnswer.statusBit

theorem sampleStep_of_polling {s : State} {h : Handle} (hh : s.handle = some h) (hs : s.seq = .polling) :
    s.sampleStep = s.poll h := by
  rw [State.sampleStep, withHandle_some _ hh, hs]

/-- At the bound the poll loop ends (R94). -/
theorem sampleStep_pollTimeout {s : State} {h : Handle} (hh : s.handle = some h) (hs : s.seq = .polling)
    (hm : s.maxPoll = some s.polls) : s.sampleStep = s.raise .pollTimeout := by
  rw [sampleStep_of_polling hh hs, State.poll, if_pos hm]

/-- Below the bound a poll is one Refresh (R92). -/
theorem sampleStep_poll {s : State} {h : Handle} (hh : s.handle = some h) (hs : s.seq = .polling)
    (hm : s.maxPoll ≠ some s.polls) :
    s.sampleStep =
      s.memRead h.addr .config (fun t => t.raise .transportError)
        (fun v t => ((t.setCfg h v).setSync .clean).countPoll.pollTest (statusReads v)) := by
  rw [sampleStep_of_polling hh hs, State.poll, if_neg hm]
  rfl

/-- A poll whose Refresh is done tests the status that the device returned (R92). -/
theorem sampleStep_polled {s : State} {h : Handle} (hh : s.handle = some h) (hs : s.seq = .polling)
    (hm : s.maxPoll ≠ some s.polls) (ha : s.inputs.answer = .ok) : s.sampleStep = s.polled h := by
  rw [sampleStep_poll hh hs hm, memRead_ok _ _ _ _ ha, State.polled, deviceRead_config, statusReads_statusWord]

/-- A configuration read that returns the status bit `b` over the stored bits `c` (20_memory.md R38, R43). -/
def statusRead (a : BusAddr) (b : Bool) (c : Stored) : BusCall :=
  .read a [Reg.config.pointer] (some (hiByte (statusWord b c), loByte (statusWord b c)))

/-- All that a poll changes. -/
theorem polled_eq {s : State} (h : Handle) (hs : s.seq = .polling) :
    s.polled h =
      { s with
        handle := some { h with cfg := statusWord s.dropAnswer.statusBit s.dev.config }
        seq := if s.dropAnswer.statusBit then .ready else .polling
        polls := s.polls + 1
        sync := .clean
        dev := { s.dev with ptr := Reg.config.pointer }
        inputs := if s.dev.singleShot then s.inputs.dropAnswer else s.inputs.dropAnswer.dropBit
        trace := s.trace ++ [statusRead h.addr s.dropAnswer.statusBit s.dev.config] } := by
  rw [State.polled, pollTest_of_polling _ (by simpa using hs)]
  rfl

/-- Settles O31: the bound is tested first; then the Refresh is done, and its status bit decides, or it fails. -/
theorem pollRefreshesThenTestsStatus : Obligations.PollRefreshesThenTestsStatus := by
  intro s h hh hs
  refine ⟨fun hm => ?_, fun hm ha => ?_, fun hm ha => ?_⟩
  · exact congrArg _ (sampleStep_pollTimeout hh hs hm)
  · exact congrArg _ ((sampleStep_polled hh hs hm ha).trans (polled_eq h hs))
  · exact congrArg _ ((sampleStep_poll hh hs hm).trans (memRead_error _ _ _ _ ha))

/-! ### From Ready -/

/-- The end of the conversion read of ReadSample that is done (R96). -/
def State.sampled (h : Handle) (s : State) : State :=
  (((s.readDone h.addr .conversion).setSample s.dev.conv).setSeq .idle).respond

/-- ReadSample ends with one read of the conversion register (R96). -/
theorem sampleStep_of_ready {s : State} {h : Handle} (hh : s.handle = some h) (hs : s.seq = .ready) :
    s.sampleStep =
      s.memRead h.addr .conversion (fun t => t.raise .transportError)
        (fun v t => ((t.setSample v).setSeq .idle).respond) := by
  rw [State.sampleStep, withHandle_some _ hh, hs]
  rfl

/-- The conversion read that is done leaves `HW.CONV` in `SAMPLE` (R96). -/
theorem sampleStep_sampled {s : State} {h : Handle} (hh : s.handle = some h) (hs : s.seq = .ready)
    (ha : s.inputs.answer = .ok) : s.sampleStep = s.sampled h :=
  (sampleStep_of_ready hh hs).trans (memRead_ok _ _ _ _ ha)

/-- A conversion read that returns `v` (20_memory.md R38, R44). -/
def conversionRead (a : BusAddr) (v : Word) : BusCall := .read a [Reg.conversion.pointer] (some (hiByte v, loByte v))

/-- All that the conversion read changes. -/
theorem sampled_eq (s : State) (h : Handle) :
    s.sampled h =
      { s with
        seq := .idle
        err := .ok
        sample := some s.dev.conv
        dev := { s.dev with ptr := Reg.conversion.pointer }
        inputs := s.inputs.dropAnswer
        trace := s.trace ++ [conversionRead h.addr s.dev.conv] } := rfl

/-- Settles O32: the conversion read is done, or it fails and leaves `SAMPLE`. -/
theorem readyReadsConversion : Obligations.ReadyReadsConversion := by
  intro s h hh hs
  refine ⟨fun ha => ?_, fun ha => ?_⟩
  · exact congrArg _ ((sampleStep_sampled hh hs ha).trans (sampled_eq s h))
  · exact congrArg _ ((sampleStep_of_ready hh hs).trans (memRead_error _ _ _ _ ha))

/-! ### The device's turns and the block's -/

/-- A turn of ConvDone while a conversion is in progress (R102). -/
theorem step_convDone {s : State} (he : s.inputs.event = .turn .convDone) (hb : s.dev.busy = true) :
    step s = .next s.dropEvent.convDone := by
  simp [step, turn, he, eventTurn, State.convDoneEnabled, hb]

/-- A turn of ContUpdate while the device is in continuous mode (R103). -/
theorem step_contUpdate {s : State} (he : s.inputs.event = .turn .contUpdate) (hm : s.dev.singleShot = false) :
    step s = .next s.dropEvent.contUpdate := by
  simp [step, turn, he, eventTurn, State.contUpdateEnabled, hm]

/-- Settles O37: each device step is taken at its turn when it is enabled. -/
theorem deviceStepsDrawConversion : Obligations.DeviceStepsDrawConversion :=
  fun _ => ⟨step_convDone, step_contUpdate⟩

/-- A turn of agent `a` from `s` falls to the block: `a` is the block, or a device step that is not enabled (log 3). -/
def FallsToBlock (a : Agent) (s : State) : Prop :=
  (a = .convDone → s.dev.busy = false) ∧ (a = .contUpdate → s.dev.singleShot = true)

/-- A turn that falls to the block is the block's. -/
theorem turn_of_fallsToBlock {s : State} {a : Agent} (he : s.inputs.event = .turn a) (ha : FallsToBlock a s) :
    turn s = blockTurn s.dropEvent := by
  obtain ⟨hconv, hcont⟩ := ha
  cases a with
  | block => simp [turn, he, eventTurn]
  | convDone => simp [turn, he, eventTurn, State.convDoneEnabled, hconv]
  | contUpdate => simp [turn, he, eventTurn, State.contUpdateEnabled, hcont]

/-- Every turn falls to the block while the device is in single-shot mode with no conversion in progress (R104). -/
theorem fallsToBlock_of_sleeping {s : State} (a : Agent) (hm : s.dev.singleShot = true) (hb : s.dev.busy = false) :
    FallsToBlock a s :=
  ⟨fun _ => hb, fun _ => hm⟩

/-- An idle block with nothing presented uses up the event and nothing else. -/
theorem blockTurn_of_nothing_presented {s : State} (hs : s.seq = .idle) (hb : s.bench = []) (hp : s.port = []) :
    blockTurn s = .done s := by
  have hnone : s.presented = none := by simp [State.presented, hb, hp]
  simp [blockTurn, hs, hnone]

/-- Settles O38: every turn falls to the block, and an idle block with nothing presented waits. -/
theorem sleepingDeviceHasNoStep : Obligations.SleepingDeviceHasNoStep := by
  intro s a hm hb he
  have hturn : turn s = blockTurn s.dropEvent := turn_of_fallsToBlock he (fallsToBlock_of_sleeping a hm hb)
  refine ⟨hturn, fun hs hbench hport => ?_⟩
  rw [step, hturn, blockTurn_of_nothing_presented (s := s.dropEvent) hs hbench hport]
  rfl

/-! ### The sequencer stays sound -/

/-- With no ReadSample in progress there is nothing to be unsound. -/
theorem sequencerSound_of_idle {s : State} (h : s.seq = .idle) : SequencerSound s := by
  simp [SequencerSound, h]

/-- Soundness is kept where handle, `SEQ` and `HW.CONFIG` are, and no conversion begins. -/
theorem SequencerSound.mono {s t : State} (h : SequencerSound s) (hh : t.handle = s.handle) (hs : t.seq = s.seq)
    (hc : t.dev.config = s.dev.config) (hb : s.dev.busy = false → t.dev.busy = false) : SequencerSound t := by
  obtain ⟨hinit, hwait, hready⟩ := h
  unfold SequencerSound State.inited Device.singleShot
  rw [hh, hs, hc]
  exact ⟨hinit, hwait, fun hd hr hhd hm => (hready hd hr hhd hm).imp_right hb⟩

/-- The word a device holds at power-on selects single-shot mode (R139). -/
theorem deviceReset_singleShot (s : State) : s.deviceReset.dev.singleShot = true := by
  simp [Device.singleShot]

/-- A device reset leaves the device in single-shot mode and not busy, so it makes no sequencer unsound (R139). -/
theorem SequencerSound.deviceReset {s : State} (h : SequencerSound s) : SequencerSound s.deviceReset := by
  obtain ⟨hinit, -, -⟩ := h
  exact ⟨hinit, fun _ => deviceReset_singleShot s, fun _ _ _ _ => ⟨deviceReset_singleShot s, rfl⟩⟩

/-- No operation but ReadSample takes `SEQ` out of Idle (42_conversion_sequencer.md R100). -/
theorem Effect.idle_of_ne_readSample {i : Instr} {s t : State} (ht : Effect i s t) (hi : i ≠ .readSample) (hs : s.seq = .idle) :
    t.seq = .idle := by
  cases ht with
  | polled _ he | sampled _ he | triggered _ he | continuous _ he | startPolling he => exact absurd he hi
  | tested b => rw [pollTest_of_not_polling b (by simp [hs])]; exact hs
  | _ => simp [State.armed, hs]

/-- What a transition of ReadSample can do: it ends the operation, or is one of the four rows of R100 that go on. -/
theorem Effect.readSample_cases {s t : State} (ht : Effect .readSample s t) :
    t.seq = .idle ∨
      (∃ h, s.seq = .idle ∧ singleShot h.cfg = true ∧ t = s.triggered h) ∨
      (∃ h, s.seq = .idle ∧ s.handle = some h ∧ singleShot h.cfg = false ∧ t = s.setSeq .ready) ∨
      (s.seq = .triggered ∧ t = s.startPolling) ∨
      ∃ h, s.seq = .polling ∧ s.maxPoll ≠ some s.polls ∧ t = s.polled h := by
  cases ht with
  | rejected | readFailed | sampled | triggerFailed => exact .inl rfl
  | setter _ _ _ hi | volts _ hi | refreshed _ hi | frameRead _ _ hi => exact absurd rfl hi
  | bound _ hi | frameFailed _ _ hi | frameWritten _ _ hi | commitFailed _ hi | committed _ hi | started _ hi => cases hi
  | tested _ hi => simp at hi
  | triggered h _ _ hs hm => exact .inr (.inl ⟨h, hs, hm, rfl⟩)
  | continuous h _ hh hs hm => exact .inr (.inr (.inl ⟨h, hs, hh, hm, rfl⟩))
  | startPolling _ hs => exact .inr (.inr (.inr (.inl ⟨hs, rfl⟩)))
  | polled h _ _ hs hm => exact .inr (.inr (.inr (.inr ⟨h, hs, hm, rfl⟩)))

/-- The trigger of a single-shot ReadSample writes the device into single-shot mode (R91). -/
theorem triggered_singleShot (s : State) {h : Handle} (hm : singleShot h.cfg = true) :
    (s.triggered h).dev.singleShot = true := by
  have hbit : (storedPart (h.cfg ||| statusMask)).getLsbD 8 = true := by
    rw [storedPart_getLsbD_eight, ← singleShot_eq, singleShot_or_statusMask, hm]
  simpa [State.triggered, Device.singleShot] using hbit

/-- A poll leaves the mode of the device (20_memory.md R43). -/
@[simp] theorem polled_singleShot (s : State) (h : Handle) : (s.polled h).dev.singleShot = s.dev.singleShot := rfl

/-- A poll leaves the busy bit (20_memory.md R43). -/
@[simp] theorem polled_busy (s : State) (h : Handle) : (s.polled h).dev.busy = s.dev.busy := rfl

/-- A poll goes to Ready or stays Polling, as bit 15 of the word read says (R92). -/
theorem polled_seq {s : State} (h : Handle) (hs : s.seq = .polling) :
    (s.polled h).seq = if s.dropAnswer.statusBit then .ready else .polling := by
  rw [polled_eq h hs]

/-- Each transition of ReadSample keeps the sequencer sound: the trigger writes the device into single-shot mode, and a poll that goes
to Ready has found the device not busy (R88, R91, R92). -/
theorem Effect.keeps_sequencerSound {s t : State} (ht : Effect .readSample s t) (h : SequencerSound s) : SequencerSound t := by
  obtain ⟨hinit, hwait, -⟩ := h
  rcases ht.readSample_cases with hs | ⟨hd, -, hm, rfl⟩ | ⟨hd, -, hh, hm, rfl⟩ | ⟨hs, rfl⟩ | ⟨hd, hs, -, rfl⟩
  · exact sequencerSound_of_idle hs
  · exact ⟨fun _ => rfl, fun _ => triggered_singleShot s hm, fun _ hr => by cases hr⟩
  · refine ⟨fun _ => by simp [State.inited, hh], fun hw => by simp at hw, fun hd' _ hh' hm' => ?_⟩
    obtain rfl : hd = hd' := Option.some.inj (hh.symm.trans hh')
    simp [hm] at hm'
  · exact ⟨fun _ => hinit (by simp [hs]), fun _ => hwait (.inl hs), fun _ hr => by cases hr⟩
  · have hsingle : s.dev.singleShot = true := hwait (.inr hs)
    have hstatus : s.dropAnswer.statusBit = !s.dev.busy := statusBit_singleShot (s := s.dropAnswer) hsingle
    refine ⟨fun _ => rfl, fun _ => hsingle, fun _ hr _ _ => ⟨hsingle, ?_⟩⟩
    rw [polled_seq hd hs, hstatus] at hr
    cases hb : s.dev.busy with
    | false => exact hb
    | true => simp [hb] at hr

/-- Settles O55: each transition of ReadSample keeps the sequencer sound, no other operation leaves Idle, and neither the device nor a
reset begins a conversion or takes the device out of single-shot mode. -/
theorem everyStepKeepsSequencerSound : Obligations.EveryStepKeepsSequencerSound := by
  intro s t h hst
  cases step_effect hst with
  | quiet hs | skipped _ hs => exact sequencerSound_of_idle (by simpa using hs)
  | rejected | blockReset => exact sequencerSound_of_idle rfl
  | item _ i _ hs _ _ ht =>
    have hidle : s.dropEvent.taken.seq = .idle := by simpa using hs
    by_cases hi : i = .readSample
    · subst hi
      exact ht.keeps_sequencerSound (sequencerSound_of_idle hidle)
    · exact sequencerSound_of_idle (ht.idle_of_ne_readSample hi hidle)
  | sampling _ _ ht => exact ht.keeps_sequencerSound (h.mono rfl rfl rfl id)
  | convDone => exact h.mono rfl rfl rfl fun _ => rfl
  | contUpdate => exact h.mono rfl rfl rfl id
  | deviceReset => exact (h.mono (t := s.dropEvent) rfl rfl rfl id).deviceReset

/-! ### The poll bound -/

/-- An instruction that ends in Polling keeps the poll counter, sets it to 0, or counts one poll below the bound (R88, R94). -/
theorem Effect.polls_cases {i : Instr} {s t : State} (ht : Effect i s t) (hp : t.seq = .polling) :
    t.polls = 0 ∨ (s.seq = .polling ∧ t.polls = s.polls) ∨
      (s.seq = .polling ∧ s.maxPoll ≠ some s.polls ∧ t.polls = s.polls + 1) := by
  cases ht with
  | polled _ _ _ hs hm => exact .inr (.inr ⟨hs, hm, by simp⟩)
  | startPolling => exact .inl rfl
  | tested b =>
    by_cases hs : s.seq = .polling
    · exact .inr (.inl ⟨hs, rfl⟩)
    · rw [pollTest_of_not_polling b hs] at hp
      exact absurd hp hs
  | rejected | readFailed | sampled | frameFailed | commitFailed | triggerFailed | triggered | continuous => cases hp
  | _ => exact .inr (.inl ⟨by simpa [State.armed] using hp, by simp [State.armed]⟩)

/-- An instruction that ends in Polling keeps the poll counter within a bound that it was within (R94). -/
theorem Effect.polls_le {i : Instr} {s t : State} {m : Nat} (ht : Effect i s t) (hm : s.maxPoll = some m)
    (hle : s.seq = .polling → s.polls ≤ m) (hp : t.seq = .polling) : t.polls ≤ m := by
  rcases ht.polls_cases hp with e | ⟨hs, e⟩ | ⟨hs, hne, e⟩ <;> rw [e]
  · exact Nat.zero_le m
  · exact hle hs
  · exact Nat.lt_of_le_of_ne (hle hs) fun he => hne (he ▸ hm)

/-- `PollBounded` speaks of `MAX_POLL`, `SEQ` and the poll counter only. -/
theorem PollBounded.congr {s t : State} (h : PollBounded s) (hm : t.maxPoll = s.maxPoll) (hs : t.seq = s.seq)
    (hp : t.polls = s.polls) : PollBounded t := by
  unfold PollBounded
  rw [hm, hs, hp]
  exact h

/-- Outside Polling only the parameter counts. -/
theorem PollBounded.of_not_polling {s t : State} (h : PollBounded s) (hm : t.maxPoll = s.maxPoll) (hs : t.seq ≠ .polling) :
    PollBounded t :=
  fun m ht => ⟨(h m (hm.symm.trans ht)).1, fun hp => absurd hp hs⟩

/-- Every instruction keeps the poll bound (R94). -/
theorem Effect.keeps_pollBounded {i : Instr} {s t : State} (ht : Effect i s t) (h : PollBounded s) : PollBounded t := by
  intro m hm
  have hm' : s.maxPoll = some m := (effect_keeps_parameters ht).1.symm.trans hm
  obtain ⟨hone, hle⟩ := h m hm'
  exact ⟨hone, ht.polls_le hm' hle⟩

/-- Settles O56: an instruction counts a poll only below the bound, and nothing else in a step touches the counter of a state that
polls. -/
theorem everyStepKeepsPollBound : Obligations.EveryStepKeepsPollBound := by
  intro s t hst
  refine ⟨step_keeps_parameters hst, fun h => ?_⟩
  cases step_effect hst with
  | item _ _ _ _ _ _ ht => exact ht.keeps_pollBounded (h.congr (by simp) (by simp) (by simp))
  | sampling _ _ ht => exact ht.keeps_pollBounded (h.congr rfl rfl rfl)
  | rejected | blockReset => exact h.of_not_polling (by simp) (by simp)
  | _ => exact h.congr (by simp) (by simp) (by simp)

/-! ### A bounded ReadSample makes progress -/

theorem sampleRank_of_idle {s : State} (m : Nat) (h : s.seq = .idle) : sampleRank m s = 0 := by
  simp [sampleRank, h]

theorem sampleRank_pos_iff {s : State} {m : Nat} : 0 < sampleRank m s ↔ s.seq ≠ .idle := by
  unfold sampleRank
  cases s.seq <;> simp

/-- Each transition of a ReadSample in progress lowers the rank: it ends, or goes from Triggered to Polling, or counts a poll, or goes
from Polling to Ready (R94, R105). -/
theorem Effect.sampleRank_lt {s t : State} {m : Nat} (ht : Effect .readSample s t) (hm : s.maxPoll = some m)
    (hle : s.seq = .polling → s.polls ≤ m) (hs : s.seq ≠ .idle) : sampleRank m t < sampleRank m s := by
  rcases ht.readSample_cases with he | ⟨_, he, -⟩ | ⟨_, he, -⟩ | ⟨htrig, rfl⟩ | ⟨h, hp, hne, rfl⟩
  · rw [sampleRank_of_idle m he]
    exact sampleRank_pos_iff.mpr hs
  · exact absurd he hs
  · exact absurd he hs
  · simp [sampleRank, State.startPolling, htrig]
  · have hlt : s.polls < m := Nat.lt_of_le_of_ne (hle hp) fun he => hne (he ▸ hm)
    have hseq : (s.polled h).seq = if s.dropAnswer.statusBit then .ready else .polling := polled_seq h hp
    have hpolls : (s.polled h).polls = s.polls + 1 := by simp [State.polled]
    cases hb : s.dropAnswer.statusBit with
    | true => simp [sampleRank, hseq, hb, hp]
    | false =>
      simp only [sampleRank, hseq, hb, hp, hpolls, Bool.false_eq_true, if_false]
      omega

/-- Settles O36: the turn is one transition of ReadSample, which lowers the rank, keeps the bound and adds at most one call. -/
theorem boundedReadSampleProgresses : Obligations.BoundedReadSampleProgresses := by
  intro m s hm hle hs
  have ht : Effect .readSample s s.sampleStep := sampleStep_effect s
  have hcalls : s.sampleStep.trace.length ≤ s.trace.length + 1 := by
    rcases ht.atMostOneCall with e | ⟨c, -, e⟩ <;> simp [e]
  exact ⟨⟨_, rfl, ht.sampleRank_lt hm hle hs, (effect_keeps_parameters ht).1.trans hm, ht.polls_le hm hle, hcalls⟩,
    rfl, rfl, rfl, rfl⟩

/-! ### Runs -/

/-- A run of `n + 1` steps is a step and a run of `n`. -/
theorem coreRun_succ {M : Host.Core} {s t : M.State} (n : Nat) (h : M.step s = .next t) : M.run (n + 1) s = M.run n t := by
  rw [Host.Core.run, h]

/-- A run goes on from where its first part ends. -/
theorem coreRun_add {M : Host.Core} {s t : M.State} {m : Nat} (n : Nat) (h : M.run m s = .next t) :
    M.run (m + n) s = M.run n t := by
  induction m generalizing s with
  | zero =>
    injection h with h
    rw [h, Nat.zero_add]
  | succ m ih =>
    rw [Nat.succ_add]
    cases hstep : M.step s with
    | next u =>
      rw [coreRun_succ _ hstep] at h ⊢
      exact ih h
    | fault | refused =>
      rw [Host.Core.run, hstep] at h
      cases h

/-- A run of the machine begins with its step. -/
theorem run_succ {s t : State} (n : Nat) (h : step s = .next t) : Sys2Proof.core.run (n + 1) s = Sys2Proof.core.run n t :=
  coreRun_succ (M := Sys2Proof.core) n h

/-- A turn that falls to the block while a ReadSample is in progress is its next transition (R101). -/
theorem step_sampling {s : State} {a : Agent} (he : s.inputs.event = .turn a) (ha : FallsToBlock a s) (hs : s.seq ≠ .idle) :
    step s = .next s.dropEvent.sampleStep := by
  rcases blockTurn_cases s.dropEvent with ⟨h, -⟩ | ⟨-, e⟩ | ⟨_, h, -⟩
  · exact absurd h hs
  · rw [step, turn_of_fallsToBlock he ha, e]
    rfl
  · exact absurd h hs

/-- A turn that falls to an idle block before the host's ReadSample is that operation's first transition (R101; log 1). -/
theorem step_readSample {s : State} {a : Agent} {rest : List (BitVec 20)} (he : s.inputs.event = .turn a)
    (ha : FallsToBlock a s) (hs : s.seq = .idle) (hb : s.bench = []) (hp : s.port = 0x70000#20 :: rest) :
    step s = .next { s with port := rest, inputs := s.inputs.dropEvent }.sampleStep := by
  have hpresented : s.dropEvent.presented = some (.command 0x70000#20) := presented_of_port hb hp
  have hblock : blockTurn s.dropEvent = itemTurn (.command 0x70000#20) s.dropEvent.taken := by
    simp [blockTurn, hs, hpresented]
  rw [step, turn_of_fallsToBlock he ha, hblock, taken_of_port (s := s.dropEvent) hb hp]
  rfl

/-! ### What is scripted -/

/-- The next turns are those of `agents`, and the next `oks` bus calls succeed. -/
structure Inputs.Scripted (i : Inputs) (agents : List Agent) (oks : Nat) : Prop where
  events : ∃ rest, i.events = agents.map .turn ++ rest
  answers : ∃ rest, i.answers = List.replicate oks .ok ++ rest

theorem Inputs.Scripted.event {i : Inputs} {a : Agent} {agents : List Agent} {oks : Nat} (h : i.Scripted (a :: agents) oks) :
    i.event = .turn a := by
  obtain ⟨⟨rest, he⟩, -⟩ := h
  simp [Inputs.event, he]

theorem Inputs.Scripted.answer {i : Inputs} {agents : List Agent} {oks : Nat} (h : i.Scripted agents (oks + 1)) :
    i.answer = .ok := by
  obtain ⟨-, ⟨rest, ha⟩⟩ := h
  simp [Inputs.answer, ha, List.replicate_succ]

theorem Inputs.Scripted.dropEvent {i : Inputs} {a : Agent} {agents : List Agent} {oks : Nat}
    (h : i.Scripted (a :: agents) oks) : i.dropEvent.Scripted agents oks := by
  obtain ⟨⟨rest, he⟩, ha⟩ := h
  exact ⟨⟨rest, by simp [he]⟩, ha⟩

theorem Inputs.Scripted.dropAnswer {i : Inputs} {agents : List Agent} {oks : Nat} (h : i.Scripted agents (oks + 1)) :
    i.dropAnswer.Scripted agents oks := by
  obtain ⟨he, ⟨rest, ha⟩⟩ := h
  exact ⟨he, ⟨rest, by simp [ha, List.replicate_succ]⟩⟩

theorem Inputs.Scripted.dropWord {i : Inputs} {agents : List Agent} {oks : Nat} (h : i.Scripted agents oks) :
    i.dropWord.Scripted agents oks :=
  ⟨h.events, h.answers⟩

/-! ### A whole continuous ReadSample -/

/-- What the device's autonomous steps from `s` to `t` leave as it was (R102, R103). -/
structure DeviceMoved (s t : State) : Prop where
  handle : t.handle = s.handle
  seq : t.seq = s.seq
  sync : t.sync = s.sync
  config : t.dev.config = s.dev.config
  port : t.port = s.port
  answers : t.inputs.answers = s.inputs.answers
  trace : t.trace = s.trace

theorem DeviceMoved.refl (s : State) : DeviceMoved s s := ⟨rfl, rfl, rfl, rfl, rfl, rfl, rfl⟩

theorem DeviceMoved.trans {s t u : State} (hst : DeviceMoved s t) (htu : DeviceMoved t u) : DeviceMoved s u :=
  ⟨htu.handle.trans hst.handle, htu.seq.trans hst.seq, htu.sync.trans hst.sync, htu.config.trans hst.config,
    htu.port.trans hst.port, htu.answers.trans hst.answers, htu.trace.trans hst.trace⟩

/-- The first of some enabled device steps is a step of the machine. -/
theorem step_of_deviceTurns_cons {a : Agent} {agents : List Agent} {s u : State} (h : deviceTurns (a :: agents) s = some u)
    (he : s.inputs.event = .turn a) :
    ∃ t, step s = .next t ∧ DeviceMoved s t ∧ t.inputs.events = s.inputs.events.tail ∧ deviceTurns agents t = some u := by
  cases a with
  | block => cases h
  | convDone =>
    rw [deviceTurns] at h
    split at h
    next hb => exact ⟨_, step_convDone he hb, ⟨rfl, rfl, rfl, rfl, rfl, rfl, rfl⟩, rfl, h⟩
    next => cases h
  | contUpdate =>
    rw [deviceTurns] at h
    split at h
    next hm =>
      exact ⟨_, step_contUpdate he (by simpa [State.contUpdateEnabled] using hm),
        ⟨rfl, rfl, rfl, rfl, rfl, rfl, rfl⟩, rfl, h⟩
    next => cases h

/-- Enabled device steps whose turns are scripted are a run. -/
theorem run_deviceTurns {agents : List Agent} {s u : State} {rest : List Event} (h : deviceTurns agents s = some u)
    (he : s.inputs.events = agents.map .turn ++ rest) :
    Sys2Proof.core.run agents.length s = .next u ∧ DeviceMoved s u ∧ u.inputs.events = rest := by
  induction agents generalizing s with
  | nil =>
    injection h with h
    subst h
    exact ⟨rfl, .refl s, he⟩
  | cons a agents ih =>
    obtain ⟨t, hst, hmoved, hevents, ht⟩ := step_of_deviceTurns_cons h (by simp [Inputs.event, he])
    obtain ⟨hrun, hmoved', hrest⟩ := ih ht (by simp [hevents, he])
    exact ⟨(run_succ _ hst).trans hrun, hmoved.trans hmoved', hrest⟩

/-- Settles O34: the block's first turn goes to Ready, the device steps between change nothing but the device's result and busy bit,
and the block's second turn is the conversion read. -/
theorem continuousReadSampleRun : Obligations.ContinuousReadSampleRun := by
  intro a b between s u h rest events answers hh hs hm hbench hport haconv hacont hdev hbconv hbcont hevents hanswers
  have hfirst : step s = .next { s with seq := .ready, port := rest, inputs := s.inputs.dropEvent } :=
    (step_readSample (by simp [Inputs.event, hevents]) ⟨haconv, hacont⟩ hs hbench hport).trans
      (congrArg _ (sampleStep_continuous hh hs hm))
  obtain ⟨hbetween, hmoved, hlast⟩ := run_deviceTurns (rest := .turn b :: events) hdev (by simp [hevents])
  have huh : u.handle = some h := hmoved.handle.trans hh
  have hua : u.inputs.answers = .ok :: answers := hmoved.answers.trans hanswers
  have hsecond : step u = .next (u.dropEvent.sampled h) := by
    rw [step_sampling (by simp [Inputs.event, hlast]) ⟨hbconv, hbcont⟩ (by simp [hmoved.seq]),
      sampleStep_sampled (s := u.dropEvent) huh hmoved.seq (by simp [Inputs.answer, hua])]
  have hrun := (run_succ _ hfirst).trans ((coreRun_add 1 hbetween).trans (run_succ 0 hsecond))
  exact ⟨_, _, run_succ 0 hfirst, rfl, hrun, rfl, huh, hmoved.sync, rfl, rfl, rfl, hmoved.config, hmoved.port,
    congrArg (· ++ _) hmoved.trace⟩

/-! ### A whole single-shot ReadSample -/

/-- A conversion is in progress for the handle `h`, whose last exchange with the device was of the configuration register. -/
structure Converting (h : Handle) (s : State) : Prop where
  handle : s.handle = some h
  sync : s.sync = .clean
  singleShot : s.dev.singleShot = true
  busy : s.dev.busy = true
  ptr : s.dev.ptr = Reg.config.pointer

/-- While the device converts, only ConvDone is not the block's turn. -/
theorem Converting.fallsToBlock {h : Handle} {s : State} {a : Agent} (hc : Converting h s) (ha : a ≠ .convDone) :
    FallsToBlock a s :=
  ⟨fun he => absurd he ha, fun _ => hc.singleShot⟩

/-- A poll of a device in single-shot mode: one read, whose status bit is `ready` (R92). -/
def State.pollRead (h : Handle) (ready : Bool) (s : State) : State :=
  { s with
    handle := some { h with cfg := statusWord ready s.dev.config }
    seq := if ready then .ready else .polling
    polls := s.polls + 1
    sync := .clean
    dev := { s.dev with ptr := Reg.config.pointer }
    inputs := s.inputs.dropEvent.dropAnswer
    trace := s.trace ++ [statusRead h.addr ready s.dev.config] }

/-- Below the bound, a turn that falls to the polling block reads ready exactly when the device is not busy (R92, R43). -/
theorem step_pollRead {h : Handle} {s : State} {a : Agent} {agents : List Agent} {oks : Nat} (hh : s.handle = some h)
    (hs : s.seq = .polling) (hm : s.maxPoll ≠ some s.polls) (hsingle : s.dev.singleShot = true) (ha : FallsToBlock a s)
    (hi : s.inputs.Scripted (a :: agents) (oks + 1)) : step s = .next (s.pollRead h !s.dev.busy) := by
  have hstatus : s.dropEvent.dropAnswer.statusBit = !s.dev.busy := statusBit_singleShot (s := s.dropEvent.dropAnswer) hsingle
  rw [step_sampling hi.event ha (by simp [hs]), sampleStep_polled (s := s.dropEvent) hh hs hm hi.dropEvent.answer,
    polled_eq (s := s.dropEvent) h hs, hstatus]
  simp [State.pollRead, hsingle]

/-- While the device converts, every turn that is not ConvDone's is a busy poll, and `k` of them are `k` reads that return busy
(R92, R93). -/
theorem run_busyPolls {agents later : List Agent} {oks : Nat} {h : Handle} {s : State} (hc : Converting h s)
    (hs : s.seq = .polling) (ha : .convDone ∉ agents) (hm : ∀ m, s.maxPoll = some m → s.polls + agents.length ≤ m)
    (hi : s.inputs.Scripted (agents ++ later) (agents.length + oks)) :
    ∃ c i, i.Scripted later oks ∧ i.words = s.inputs.words ∧
      Sys2Proof.core.run agents.length s =
        .next { s with
          handle := some { h with cfg := c }
          polls := s.polls + agents.length
          inputs := i
          trace := s.trace ++ List.replicate agents.length (statusRead h.addr false s.dev.config) } := by
  induction agents generalizing s h with
  | nil => exact ⟨h.cfg, s.inputs, by simpa using hi, rfl, by simp [Host.Core.run, ← hc.handle]⟩
  | cons a agents ih =>
    obtain ⟨hne, ha⟩ := not_or.mp (mt List.mem_cons.mpr ha)
    have hi' : s.inputs.Scripted (a :: (agents ++ later)) (agents.length + oks + 1) := by
      simpa [Nat.add_right_comm] using hi
    have hbound : s.maxPoll ≠ some s.polls := fun he => by simpa using hm _ he
    have hstep : step s = .next (s.pollRead h false) := by
      simpa [hc.busy] using step_pollRead hc.handle hs hbound hc.singleShot (hc.fallsToBlock (Ne.symm hne)) hi'
    have hc' : Converting { h with cfg := statusWord false s.dev.config } (s.pollRead h false) :=
      ⟨rfl, rfl, hc.singleShot, hc.busy, rfl⟩
    have hm' : ∀ m, s.maxPoll = some m → s.polls + 1 + agents.length ≤ m := fun m he => by
      simpa [Nat.add_assoc, Nat.add_comm 1] using hm m he
    obtain ⟨c, i, hlater, hwords, hrun⟩ := ih hc' rfl ha hm' hi'.dropEvent.dropAnswer
    refine ⟨c, i, hlater, hwords, (run_succ _ hstep).trans (hrun.trans ?_)⟩
    simp [State.pollRead, List.replicate_succ, hs, hc.sync, ← hc.ptr, Nat.add_assoc, Nat.add_comm 1]

/-- Once the device is done, two turns end the ReadSample: a read that returns ready and the conversion read (R92, R96). -/
theorem run_readyPoll {h : Handle} {s : State} {a b : Agent} (hh : s.handle = some h) (hs : s.seq = .polling)
    (hm : s.maxPoll ≠ some s.polls) (hsingle : s.dev.singleShot = true) (hb : s.dev.busy = false)
    (hi : s.inputs.Scripted [a, b] 2) :
    Sys2Proof.core.run 2 s =
      .next ((s.pollRead h true).dropEvent.sampled { h with cfg := statusWord true s.dev.config }) := by
  have hpoll : step s = .next (s.pollRead h true) := by
    simpa [hb] using step_pollRead hh hs hm hsingle (fallsToBlock_of_sleeping a hsingle hb) hi
  have hi' : (s.pollRead h true).inputs.Scripted [b] 1 := hi.dropEvent.dropAnswer
  have hread : step (s.pollRead h true) =
      .next ((s.pollRead h true).dropEvent.sampled { h with cfg := statusWord true s.dev.config }) := by
    rw [step_sampling hi'.event (fallsToBlock_of_sleeping (s := s.pollRead h true) b hsingle hb) (by simp [State.pollRead]),
      sampleStep_sampled (s := (s.pollRead h true).dropEvent) rfl rfl hi'.dropEvent.answer]
  exact (run_succ 1 hpoll).trans (run_succ 0 hread)

/-- The device is done, with `result` in `HW.CONV` (R102). -/
def State.converted (result : Word) (s : State) : State :=
  { s with dev := { s.dev with conv := result, busy := false }, inputs := s.inputs.dropEvent.dropWord }

/-- ConvDone at its scripted turn takes the next result (R102). -/
theorem step_convDone_scripted {s : State} {agents : List Agent} {oks : Nat} {result : Word} {words : List Word}
    (hb : s.dev.busy = true) (hi : s.inputs.Scripted (.convDone :: agents) oks) (hw : s.inputs.words = result :: words) :
    step s = .next (s.converted result) := by
  have hword : s.inputs.dropEvent.word = result := by simp [Inputs.word, hw]
  rw [step_convDone hi.event hb, ← hword]
  rfl

/-- The poll loop begins at the next turn after the trigger (R88). -/
theorem step_startPolling {h : Handle} {s : State} {a : Agent} (hh : s.handle = some h) (hs : s.seq = .triggered)
    (he : s.inputs.event = .turn a) (ha : FallsToBlock a s) : step s = .next s.dropEvent.startPolling := by
  rw [step_sampling he ha (by simp [hs]), sampleStep_startPolling (s := s.dropEvent) hh hs]

section Schedule

/-! From the trigger on: ConvDone falls after the turns `before`, the first of which begins the poll loop and each other one of which
is a busy poll; enough turns come after it to end the operation, and every bus call succeeds. -/

variable {before after : List Agent} {result : Word} {words : List Word} {h : Handle} {s : State}
  (hc : Converting h s) (hs : s.seq = .triggered) (hbefore : .convDone ∉ before)
  (hafter : after.length = if before = [] then 3 else 2) (hm : ∀ m, s.maxPoll = some m → before.length - 1 < m)
  (hi : s.inputs.Scripted (before ++ .convDone :: after) (before.length - 1 + 2)) (hw : s.inputs.words = result :: words)

include hc hs hbefore hafter hm hi hw

/-- From the trigger to the state in which the block polls and the device is done; two turns are left. -/
theorem run_untilDone :
    ∃ n c i a b, before.length + after.length + 1 = n + 2 ∧ i.Scripted [a, b] 2 ∧
      Sys2Proof.core.run n s =
        .next { s with
          handle := some { h with cfg := c }
          seq := .polling
          polls := before.length - 1
          dev := { s.dev with conv := result, busy := false }
          inputs := i
          trace := s.trace ++ List.replicate (before.length - 1) (statusRead h.addr false s.dev.config) } := by
  cases before with
  | nil =>
    obtain ⟨w, a, b, rfl⟩ := List.length_eq_three.mp hafter
    have hdone : step s = .next (s.converted result) := step_convDone_scripted hc.busy hi hw
    have hstart : step (s.converted result) = .next (s.converted result).dropEvent.startPolling :=
      step_startPolling hc.handle hs hi.dropEvent.dropWord.event (fallsToBlock_of_sleeping w hc.singleShot rfl)
    refine ⟨2, h.cfg, _, a, b, rfl, hi.dropEvent.dropWord.dropEvent, ((run_succ 1 hdone).trans (run_succ 0 hstart)).trans ?_⟩
    simp [Host.Core.run, State.converted, State.startPolling, State.dropEvent, ← hc.handle]
  | cons a before =>
    obtain ⟨x, y, rfl⟩ := List.length_eq_two.mp hafter
    obtain ⟨ha, hbefore⟩ := not_or.mp (mt List.mem_cons.mpr hbefore)
    have hstart : step s = .next s.dropEvent.startPolling :=
      step_startPolling hc.handle hs hi.event (hc.fallsToBlock (Ne.symm ha))
    have hc' : Converting h s.dropEvent.startPolling := ⟨hc.handle, hc.sync, hc.singleShot, hc.busy, hc.ptr⟩
    obtain ⟨c, i, hlater, hwords, hpolls⟩ := run_busyPolls hc' rfl hbefore
      (fun m he => by simpa [State.startPolling] using (hm m he).le) hi.dropEvent
    refine ⟨before.length + 2, c, i.dropEvent.dropWord, x, y, by simp, hlater.dropEvent.dropWord, ?_⟩
    refine (run_succ _ hstart).trans ((coreRun_add 1 hpolls).trans ?_)
    refine Eq.trans (run_succ 0 (step_convDone_scripted hc.busy hlater (hwords.trans hw))) ?_
    simp [Host.Core.run, State.converted, State.startPolling, State.dropEvent]

/-- From the trigger to the end: the polls that return busy, the one that returns ready, and the conversion read (R92, R93, R96). -/
theorem run_converting :
    ∃ p i, Sys2Proof.core.run (before.length + after.length + 1) s =
      .next { s with
        handle := some { h with cfg := statusWord true s.dev.config }
        seq := .idle
        polls := p
        sync := .clean
        err := .ok
        sample := some result
        dev := { s.dev with busy := false, conv := result, ptr := Reg.conversion.pointer }
        inputs := i
        trace := s.trace ++ List.replicate (before.length - 1) (statusRead h.addr false s.dev.config) ++
          [statusRead h.addr true s.dev.config, conversionRead h.addr result] } := by
  obtain ⟨n, c, i, a, b, hn, hlast, hwait⟩ := run_untilDone hc hs hbefore hafter hm hi hw
  rw [hn]
  refine ⟨before.length - 1 + 1, i.dropEvent.dropAnswer.dropEvent.dropAnswer, (coreRun_add 2 hwait).trans ?_⟩
  refine Eq.trans (run_readyPoll rfl rfl (fun he => (hm _ he).ne rfl) hc.singleShot rfl hlast) (congrArg _ ?_)
  simp [sampled_eq, State.pollRead, State.dropEvent]

end Schedule

/-- A ready status over the stored bits of a word is that word with bit 15 set (20_memory.md R43). -/
@[simp] theorem statusWord_true_storedPart (w : Word) : statusWord true (storedPart w) = w ||| statusMask := by
  apply BitVec.eq_of_getLsbD_eq
  intro i hi
  simp only [statusWord, statusMask, storedPart]
  interval_cases i <;> simp

/-- A busy status over the stored bits of a word is that word with bit 15 cleared (20_memory.md R43). -/
@[simp] theorem statusWord_false_storedPart (w : Word) : statusWord false (storedPart w) = w &&& 0x7FFF#16 := by
  rw [and_eq_setWidth_storedPart]
  exact BitVec.zero_or

/-- The trigger whose write is done leaves a conversion in progress (R42, R91). -/
theorem converting_triggered (s : State) {h : Handle} (hm : h.cfg.getLsbD 8 = true) :
    Converting { h with cfg := h.cfg ||| statusMask } (s.triggered h) := by
  refine ⟨rfl, rfl, triggered_singleShot s (by rw [singleShot_eq, hm]), ?_, ?_⟩ <;> rw [triggered_eq]

/-- Settles O33: the trigger, the turns until the device is done, the read that returns ready, and the conversion read. -/
theorem singleShotReadSampleRun : Obligations.SingleShotReadSampleRun := by
  intro a before after result s h rest events answers words hh hs hm haconv hacont hbefore hafter hmax hbench hport hevents
    hanswers hwords
  have hi : s.inputs.Scripted (a :: (before ++ .convDone :: after)) (before.length - 1 + 2 + 1) :=
    ⟨⟨events, by simpa using hevents⟩, ⟨answers, hanswers⟩⟩
  have hfirst := step_readSample hi.event ⟨haconv, hacont⟩ hs hbench hport
  rw [sampleStep_triggered (s := { s with port := rest, inputs := s.inputs.dropEvent }) hh hs hm hi.dropEvent.answer]
    at hfirst
  have hc := converting_triggered { s with port := rest, inputs := s.inputs.dropEvent } hm
  rw [triggered_eq, storedPart_or_statusMask] at hfirst hc
  obtain ⟨p, i, hrest⟩ := run_converting hc rfl hbefore hafter hmax hi.dropEvent.dropAnswer hwords
  simp only [statusRead, statusWord_true_storedPart, statusWord_false_storedPart] at hrest
  exact ⟨_, (run_succ _ hfirst).trans hrest, rfl, rfl, rfl, rfl, rfl, rfl, rfl, rfl, rfl⟩

end Sys2Proof.Machine
end

section
/-! PROOFS. 43_voltage_scaling.md: sign and magnitude, the exact value and its laws, the whole next state of ToVolts, and the
error of the float rendering. -/

namespace Sys2Proof.Machine

/-! ### Sign and magnitude -/

/-- The top bit is the sign of the two's-complement value (43_voltage_scaling.md R107). -/
theorem isNegative_eq_toInt_neg (raw : Word) : isNegative raw = decide (raw.toInt < 0) := by
  rw [← BitVec.msb_eq_toInt, BitVec.msb_eq_getLsbD_last]
  rfl

/-- Inverting and incrementing recovers the absolute value (R107). -/
theorem magnitude_eq_natAbs (raw : Word) : magnitude raw = raw.toInt.natAbs := by
  have hmsb : isNegative raw = raw.msb := by rw [isNegative_eq_toInt_neg, BitVec.msb_eq_toInt]
  have habs : magnitude raw = raw.abs.toNat := by
    rw [magnitude, hmsb, ← BitVec.neg_eq_not_add, BitVec.abs]
    split <;> rfl
  rw [habs, BitVec.toNat_abs, BitVec.toInt_eq_msb_cond]
  split <;> omega

/-- The range of a raw sample read as a signed number (00_scope.md R11). -/
theorem toInt_range (raw : Word) : -32768 ≤ raw.toInt ∧ raw.toInt ≤ 32767 :=
  ⟨raw.le_toInt, Int.le_of_lt_add_one raw.toInt_lt⟩

/-- Settles O44: the top bit is the sign and the magnitude the absolute value of the signed sample. -/
theorem signMagnitudeIsTwosComplement : Obligations.SignMagnitudeIsTwosComplement := by
  intro raw
  obtain ⟨hlow, hhigh⟩ := toInt_range raw
  simp only [isNegative_eq_toInt_neg, magnitude_eq_natAbs, decide_eq_true_eq, decide_eq_false_iff_not]
  refine ⟨?_, by omega, by omega, by omega⟩
  split <;> omega

/-! ### The exact value -/

/-- Where the full-scale range is 32768 whole steps, the exact value is the signed sample times the step (R110). -/
theorem exactVolts_eq_toInt_mul {fsr : Nat} {step : Int} (hstep : (fsr : Int) * 10000000 = step * 32768) (raw : Word) :
    exactVolts (isNegative raw) fsr (magnitude raw) = raw.toInt * step := by
  lift step to Nat using by omega
  have hstep' : fsr * 10000000 = step * 32768 := by exact_mod_cast hstep
  have hdiv : fsr * 10000000 * magnitude raw / 32768 = magnitude raw * step := by
    rw [hstep', mul_right_comm, Nat.mul_div_cancel _ (by decide), mul_comm]
  obtain ⟨hsign, -⟩ := signMagnitudeIsTwosComplement raw
  rw [exactVolts, hdiv, ← hsign]
  split <;> push_cast <;> ring

/-- A full-scale range lies between those of gain codes 5 and 0 (R108). -/
theorem fullScale_range {g fsr : Nat} (hg : fullScale g = some fsr) : 256 ≤ fsr ∧ fsr ≤ 6144 := by
  unfold fullScale at hg
  split at hg <;> cases hg <;> decide

/-- A full-scale range is 32768 whole steps of 10^-10 V (R108). -/
theorem fullScale_eq_steps {g fsr : Nat} (hg : fullScale g = some fsr) :
    ∃ step : Int, 0 < step ∧ (fsr : Int) * 10000000 = step * 32768 := by
  unfold fullScale at hg
  split at hg
  case h_7 => cases hg
  all_goals
    cases hg
    exact ⟨_, by decide, (Int.ediv_mul_cancel (by decide)).symm⟩

/-- Settles O45: each row of the table has whole steps, and a signed sample has at most 32768 of them. -/
theorem exactVoltsIsRationalFormula : Obligations.ExactVoltsIsRationalFormula := by
  refine ⟨rfl, rfl, fun p hp => ?_⟩
  have hrow : fullScale p.1 = some p.2.1 ∧ (p.2.1 : Int) * 10000000 = p.2.2 * 32768 ∧ 0 ≤ p.2.2 ∧ p.2.2 ≤ 1875000 := by
    revert p
    decide
  obtain ⟨hfull, hstep, hpos, hmax⟩ := hrow
  refine ⟨hfull, fun raw => ?_⟩
  have hrat : (p.2.1 : ℚ) * 10000000 = p.2.2 * 32768 := by exact_mod_cast hstep
  obtain ⟨hlow, hhigh⟩ := toInt_range raw
  rw [exactVolts_eq_toInt_mul hstep]
  refine ⟨?_, rfl, by nlinarith, by nlinarith⟩
  push_cast
  linear_combination -(raw.toInt : ℚ) / (10000000000 * 32768) * hrat

/-- Settles O46: the exact value is the signed sample times a positive step, and the full scale is 32768 steps. -/
theorem exactVoltsLaws : Obligations.ExactVoltsLaws := by
  intro g fsr hg
  obtain ⟨step, hpos, hstep⟩ := fullScale_eq_steps hg
  push_cast
  simp only [exactVolts_eq_toInt_mul hstep, hstep]
  refine ⟨fun r r' h => mul_lt_mul_of_pos_right h hpos, fun r r' h => by rw [h, neg_mul], fun r => ?_⟩
  obtain ⟨hlow, hhigh⟩ := toInt_range r
  have hmin : r = 0x8000#16 ↔ r.toInt = -32768 := BitVec.toInt_inj.symm
  rw [hmin]
  refine ⟨by nlinarith, by nlinarith, fun h => ?_, fun h => by rw [h]; ring⟩
  exact mul_right_cancel₀ hpos.ne' (by linarith)

/-! ### The operation -/

/-- The dispatch hands ToVolts to its meaning. -/
theorem exec_toVolts (raw : Word) (s : State) : exec (.toVolts raw) s = .next (s.toVolts raw) := rfl

/-- The gain code is the shifted gain field of the mirror (R109). -/
theorem gainCode_eq (cfg : Word) : gainCode cfg = ((cfg &&& 0x0E00#16) >>> 9).toNat := rfl

/-- ToVolts with a legal gain writes `VOLTS` and `ERR` (R106). -/
theorem toVolts_of_gain {s : State} {h : Handle} {fsr : Nat} (raw : Word) (hh : s.handle = some h)
    (hg : fullScale (gainCode h.cfg) = some fsr) :
    s.toVolts raw =
      { s with
        volts :=
          some
            { exact := exactVolts (isNegative raw) fsr (magnitude raw)
              float := floatVolts s.float (isNegative raw) fsr (magnitude raw) }
        err := .ok } := by
  rw [State.toVolts, withHandle_some _ hh]
  simp only [hg]
  rfl

/-- ToVolts with a reserved gain raises (R112). -/
theorem toVolts_of_reserved {s : State} {h : Handle} (raw : Word) (hh : s.handle = some h)
    (hg : fullScale (gainCode h.cfg) = none) : s.toVolts raw = s.raise .reservedGain := by
  rw [State.toVolts, withHandle_some _ hh]
  simp only [hg]

/-- Settles O41: the gain field selects the row's range and step, and sign and magnitude are those of the signed sample. -/
theorem toVoltsExactValue : Obligations.ToVoltsExactValue := by
  intro g hmem
  have hrow : fullScale (g.1 >>> 9).toNat = some g.2.1 ∧ (g.2.1 : Int) * 10000000 = g.2.2 * 32768 := by
    revert g
    decide
  obtain ⟨hfull, hstep⟩ := hrow
  intro raw s h hh hcfg
  have hg : fullScale (gainCode h.cfg) = some g.2.1 := by rw [gainCode_eq, hcfg, hfull]
  rw [exec_toVolts, toVolts_of_gain raw hh hg, exactVolts_eq_toInt_mul hstep, isNegative_eq_toInt_neg, magnitude_eq_natAbs]

/-- Settles O42: the two reserved fields have no full-scale range. -/
theorem toVoltsReservedGain : Obligations.ToVoltsReservedGain := by
  intro raw s h hh hcfg
  have hg : fullScale (gainCode h.cfg) = none := by
    rw [gainCode_eq]
    rcases hcfg with e | e <;> rw [e] <;> rfl
  rw [exec_toVolts, toVolts_of_reserved raw hh hg]
  rfl

/-- Settles O43: equal gain fields select the same range or both none, and then VOLTS and ERR depend on the format and on the old
VOLTS only. -/
theorem toVoltsReadsGainOnly : Obligations.ToVoltsReadsGainOnly := by
  intro raw s s' t t' h h' hh hh' hcfg hfloat hvolts he he'
  rw [exec_toVolts] at he he'
  cases he
  cases he'
  have hgain : gainCode h.cfg = gainCode h'.cfg := by rw [gainCode_eq, hcfg, gainCode_eq]
  cases hg : fullScale (gainCode h.cfg) with
  | none =>
    rw [toVolts_of_reserved raw hh hg, toVolts_of_reserved raw hh' (hgain ▸ hg)]
    exact ⟨hvolts, rfl⟩
  | some fsr =>
    rw [toVolts_of_gain raw hh hg, toVolts_of_gain raw hh' (hgain ▸ hg), hfloat]
    exact ⟨rfl, rfl⟩

/-! ### Relative error -/

/-- `x` differs from `y` by at most `ε` times `y`. -/
def RelErr (ε x y : ℚ) : Prop := |x - y| ≤ ε * |y|

namespace RelErr

theorem mono {ε δ x y : ℚ} (h : RelErr ε x y) (hle : ε ≤ δ) : RelErr δ x y :=
  le_trans h (mul_le_mul_of_nonneg_right hle (abs_nonneg y))

theorem mul_left {ε x y : ℚ} (h : RelErr ε x y) (c : ℚ) : RelErr ε (c * x) (c * y) := by
  unfold RelErr at *
  rw [← mul_sub, abs_mul, abs_mul, mul_left_comm]
  exact mul_le_mul_of_nonneg_left h (abs_nonneg c)

theorem abs_le {ε x y : ℚ} (h : RelErr ε x y) : |x| ≤ (1 + ε) * |y| := by
  unfold RelErr at h
  linarith [abs_sub_abs_le_abs_sub x y]

theorem le_abs {ε x y : ℚ} (h : RelErr ε x y) : (1 - ε) * |y| ≤ |x| := by
  unfold RelErr at h
  linarith [abs_sub_abs_le_abs_sub y x, abs_sub_comm x y]

/-- Errors made one after the other. -/
theorem trans {ε δ x y z : ℚ} (h : RelErr ε x y) (h' : RelErr δ y z) (hε : 0 ≤ ε) : RelErr (ε * (1 + δ) + δ) x z := by
  have hy := mul_le_mul_of_nonneg_left h'.abs_le hε
  unfold RelErr at *
  linarith [abs_sub_le x y z]

/-- The error of a product. -/
theorem mul {ε δ x y x' y' : ℚ} (h : RelErr ε x y) (h' : RelErr δ x' y') (hε : 0 ≤ ε) :
    RelErr (ε * (1 + δ) + δ) (x * x') (y * y') := by
  have hx : RelErr ε (x * x') (y * x') := by simpa only [mul_comm] using h.mul_left x'
  exact hx.trans (h'.mul_left y) hε

/-- The error of a reciprocal. -/
theorem inv {ε x y : ℚ} (h : RelErr ε x y) (hε : ε ≤ 1 / 2) : RelErr (2 * ε) x⁻¹ y⁻¹ := by
  have hlow := h.le_abs
  unfold RelErr at *
  rcases eq_or_ne y 0 with rfl | hy
  · have hx : x = 0 := by simpa using h
    simp [hx]
  have hy' : 0 < |y| := abs_pos.mpr hy
  have hx' : 0 < |x| := by nlinarith
  have hdiff : x⁻¹ - y⁻¹ = -(x - y) / (x * y) := by
    have hx : x ≠ 0 := abs_pos.mp hx'
    field_simp
    ring
  rw [hdiff, abs_div, abs_neg, abs_mul, abs_inv, div_le_iff₀ (mul_pos hx' hy')]
  have hε' : 0 ≤ ε := nonneg_of_mul_nonneg_left ((abs_nonneg _).trans h) hy'
  calc |x - y| ≤ ε * |y| := h
    _ ≤ ε * (2 * |x|) := mul_le_mul_of_nonneg_left (by nlinarith) hε'
    _ = 2 * ε * |x| := by ring
    _ = 2 * ε * |y|⁻¹ * (|x| * |y|) := by field_simp

end RelErr

/-! ### Rounding to `p` bits -/

/-- Rounding to nearest moves a quotient by at most one half. -/
theorem abs_roundQuot_sub_le (num : Nat) {den : Nat} (hden : 0 < den) :
    |(roundQuot num den : ℚ) - (num : ℚ) / den| ≤ 1 / 2 := by
  have hd : (0 : ℚ) < den := by exact_mod_cast hden
  have hsplit : (num : ℚ) = den * (num / den : Nat) + (num % den : Nat) := by exact_mod_cast (Nat.div_add_mod num den).symm
  have hlt : ((num % den : Nat) : ℚ) < den := by exact_mod_cast Nat.mod_lt num hden
  have hquot : (num : ℚ) / den = (num / den : Nat) + (num % den : Nat) / (den : ℚ) := by
    rw [eq_comm, ← mul_right_inj' hd.ne', mul_add, mul_div_cancel₀ _ hd.ne', mul_div_cancel₀ _ hd.ne', hsplit]
  have hfrac : 0 ≤ ((num % den : Nat) : ℚ) / den := by positivity
  rw [hquot, roundQuot, abs_le]
  split
  case isTrue h =>
    have hhalf : (1 : ℚ) / 2 ≤ (num % den : Nat) / (den : ℚ) := by
      rw [le_div_iff₀ hd]
      have : (den : ℚ) ≤ 2 * (num % den : Nat) := by exact_mod_cast h.elim Nat.le_of_lt fun h => h.1.ge
      linarith
    have hone : ((num % den : Nat) : ℚ) / den < 1 := (div_lt_one hd).mpr hlt
    push_cast
    constructor <;> linarith
  case isFalse h =>
    have hhalf : ((num % den : Nat) : ℚ) / den ≤ 1 / 2 := by
      rw [div_le_iff₀ hd]
      have : 2 * ((num % den : Nat) : ℚ) ≤ den := by exact_mod_cast Nat.le_of_not_lt fun hlt => h (.inl hlt)
      linarith
    constructor <;> linarith

/-- Rounding gives the quotient or the next integer. -/
theorem roundQuot_bounds (num den : Nat) : num / den ≤ roundQuot num den ∧ roundQuot num den ≤ num / den + 1 := by
  unfold roundQuot
  dsimp only
  split <;> omega

/-- Scaling divides the ratio by the power of two. -/
theorem scaleNum_div_scaleDen (num den : Nat) (e : Int) :
    (scaleNum num e : ℚ) / scaleDen den e = num / den / (2 : ℚ) ^ e := by
  obtain ⟨n, rfl | rfl⟩ := e.eq_nat_or_neg
  · simp [scaleNum, scaleDen, div_div]
  · simp [scaleNum, scaleDen, mul_div_right_comm]

theorem scaleDen_pos {den : Nat} (hden : den ≠ 0) (e : Int) : 0 < scaleDen den e := by
  have := Nat.pos_of_ne_zero hden
  unfold scaleDen
  positivity

/-- The integer part of the scaled ratio has more than `n` bits where the ratio reaches that power of two. -/
theorem two_pow_le_scaled_iff (num : Nat) {den : Nat} (hden : den ≠ 0) (e : Int) (n : Nat) :
    2 ^ n ≤ scaleNum num e / scaleDen den e ↔ (2 : ℚ) ^ ((n : Int) + e) ≤ num / den := by
  have hpos : (0 : ℚ) < scaleDen den e := by exact_mod_cast scaleDen_pos hden e
  rw [zpow_add₀ two_ne_zero, ← le_div_iff₀ (by positivity), ← scaleNum_div_scaleDen, le_div_iff₀ hpos,
    Nat.le_div_iff_mul_le (scaleDen_pos hden e)]
  exact_mod_cast Iff.rfl

/-- The two logarithms bound the ratio. -/
theorem log2_bounds {num den : Nat} (hnum : num ≠ 0) (hden : den ≠ 0) :
    (2 : ℚ) ^ ((num.log2 : Int) - den.log2 - 1) ≤ (num : ℚ) / den ∧
      (num : ℚ) / den < (2 : ℚ) ^ ((num.log2 : Int) - den.log2 + 1) := by
  have hd : (0 : ℚ) < den := by exact_mod_cast Nat.pos_of_ne_zero hden
  have hnlow : (2 : ℚ) ^ (num.log2 : Int) ≤ num := by exact_mod_cast Nat.log2_self_le hnum
  have hnhigh : (num : ℚ) < (2 : ℚ) ^ ((num.log2 : Int) + 1) := by exact_mod_cast Nat.lt_log2_self (n := num)
  have hdlow : (2 : ℚ) ^ (den.log2 : Int) ≤ den := by exact_mod_cast Nat.log2_self_le hden
  have hdhigh : (den : ℚ) < (2 : ℚ) ^ ((den.log2 : Int) + 1) := by exact_mod_cast Nat.lt_log2_self (n := den)
  rw [le_div_iff₀ hd, div_lt_iff₀ hd]
  constructor
  · calc (2 : ℚ) ^ ((num.log2 : Int) - den.log2 - 1) * den
        ≤ (2 : ℚ) ^ ((num.log2 : Int) - den.log2 - 1) * (2 : ℚ) ^ ((den.log2 : Int) + 1) := by gcongr
      _ = (2 : ℚ) ^ (num.log2 : Int) := by rw [← zpow_add₀ two_ne_zero]; congr 1; ring
      _ ≤ num := hnlow
  · calc (num : ℚ) < (2 : ℚ) ^ ((num.log2 : Int) + 1) := hnhigh
      _ = (2 : ℚ) ^ ((num.log2 : Int) - den.log2 + 1) * (2 : ℚ) ^ (den.log2 : Int) := by
        rw [← zpow_add₀ two_ne_zero]; congr 1; ring
      _ ≤ (2 : ℚ) ^ ((num.log2 : Int) - den.log2 + 1) * den := by gcongr

/-- The chosen exponent gives the integer part of the quotient exactly `p` bits. -/
theorem roundExp_spec {p num den : Nat} (hp : 1 ≤ p) (hnum : num ≠ 0) (hden : den ≠ 0) :
    2 ^ (p - 1) ≤ scaleNum num (roundExp p num den) / scaleDen den (roundExp p num den) ∧
      scaleNum num (roundExp p num den) / scaleDen den (roundExp p num den) < 2 ^ p := by
  obtain ⟨hlow, hhigh⟩ := log2_bounds hnum hden
  obtain ⟨n, rfl⟩ := Nat.exists_eq_add_of_le' hp
  simp only [roundExp, Nat.add_sub_cancel, Nat.cast_add, Nat.cast_one, add_sub_cancel_right]
  split
  case isTrue h =>
    rw [← not_le, two_pow_le_scaled_iff num hden, not_le] at h
    rw [← not_le, two_pow_le_scaled_iff num hden, two_pow_le_scaled_iff num hden, not_le]
    constructor
    · convert hlow using 2
      ring
    · convert h using 2
      push_cast
      ring
  case isFalse h =>
    have hexp : ((n + 1 : Nat) : Int) + ((num.log2 : Int) - den.log2 - n) = num.log2 - den.log2 + 1 := by
      push_cast
      ring
    refine ⟨not_lt.mp h, ?_⟩
    rwa [← not_le, two_pow_le_scaled_iff num hden, not_le, hexp]

/-- A significand of `p` bits, the carry of a rounding included, or zero. -/
def Fp.Normal (p : Nat) (x : Fp) : Prop := x.man = 0 ∨ 2 ^ (p - 1) ≤ x.man ∧ x.man ≤ 2 ^ p

/-- `-1` for a set sign, else `1`. -/
def signFactor (b : Bool) : ℚ := if b then -1 else 1

@[simp] theorem signFactor_bne (a b : Bool) : signFactor (a != b) = signFactor a * signFactor b := by
  cases a <;> cases b <;> simp [signFactor]

@[simp] theorem signFactor_not (a : Bool) : signFactor (!a) = -signFactor a := by
  cases a <;> simp [signFactor]

@[simp] theorem abs_signFactor (a : Bool) : |signFactor a| = 1 := by
  cases a <;> simp [signFactor]

@[simp] theorem inv_signFactor (a : Bool) : (signFactor a)⁻¹ = signFactor a := by
  cases a <;> simp [signFactor]

theorem Fp.value_eq (x : Fp) : x.value = signFactor x.sign * x.man * (2 : ℚ) ^ x.exp := rfl

theorem Fp.abs_value (x : Fp) : |x.value| = x.man * (2 : ℚ) ^ x.exp := by
  rw [value_eq, abs_mul, abs_mul, abs_signFactor, one_mul, Nat.abs_cast, abs_of_pos (by positivity)]

theorem Fp.round_zero (p : Nat) (sign : Bool) (den : Nat) (e0 : Int) :
    Fp.round p sign 0 den e0 = { sign := sign, man := 0, exp := 0 } := rfl

theorem Fp.round_of_ne_zero (p : Nat) (sign : Bool) {num : Nat} (hnum : num ≠ 0) (den : Nat) (e0 : Int) :
    Fp.round p sign num den e0 =
      { sign := sign
        man := roundQuot (scaleNum num (roundExp p num den)) (scaleDen den (roundExp p num den))
        exp := roundExp p num den + e0 } :=
  if_neg hnum

/-- A rounded number other than zero has a significand of `p` bits. -/
theorem Fp.round_man_range {p num den : Nat} (hp : 1 ≤ p) (hnum : num ≠ 0) (hden : den ≠ 0) (sign : Bool) (e0 : Int) :
    2 ^ (p - 1) ≤ (Fp.round p sign num den e0).man ∧ (Fp.round p sign num den e0).man ≤ 2 ^ p := by
  rw [round_of_ne_zero p sign hnum]
  obtain ⟨hlow, hhigh⟩ := roundExp_spec hp hnum hden
  obtain ⟨hfloor, hceil⟩ := roundQuot_bounds (scaleNum num (roundExp p num den)) (scaleDen den (roundExp p num den))
  exact ⟨hlow.trans hfloor, hceil.trans hhigh⟩

theorem Fp.round_normal {p den : Nat} (hp : 1 ≤ p) (hden : den ≠ 0) (sign : Bool) (num : Nat) (e0 : Int) :
    (Fp.round p sign num den e0).Normal p := by
  rcases eq_or_ne num 0 with rfl | hnum
  · exact .inl rfl
  · exact .inr (round_man_range hp hnum hden sign e0)

/-- Rounding to `p` bits has a relative error of at most `2 ^ -p`: half a unit of a significand that is at least `2 ^ (p - 1)`. -/
theorem Fp.round_relErr {p den : Nat} (hp : 1 ≤ p) (hden : den ≠ 0) (sign : Bool) (num : Nat) (e0 : Int) :
    RelErr ((2 : ℚ) ^ (-p : Int)) (Fp.round p sign num den e0).value (signFactor sign * (num / den) * (2 : ℚ) ^ e0) := by
  rcases eq_or_ne num 0 with rfl | hnum
  · simp [RelErr, value_eq, round_zero]
  rw [round_of_ne_zero p sign hnum, value_eq]
  obtain ⟨hlow, -⟩ := roundExp_spec hp hnum hden
  rw [two_pow_le_scaled_iff num hden] at hlow
  set e := roundExp p num den
  have hround := abs_roundQuot_sub_le (scaleNum num e) (scaleDen_pos hden e)
  rw [scaleNum_div_scaleDen] at hround
  have hbig : (1 : ℚ) / 2 ≤ (2 : ℚ) ^ (-p : Int) * |(num : ℚ) / den / 2 ^ e| := by
    rw [abs_of_nonneg (by positivity), ← mul_div_assoc, le_div_iff₀ (by positivity)]
    refine le_trans (le_of_eq ?_) (mul_le_mul_of_nonneg_left hlow (by positivity))
    rw [one_div, ← zpow_neg_one, ← zpow_add₀ two_ne_zero, ← zpow_add₀ two_ne_zero]
    push_cast [hp]
    ring_nf
  have hman : RelErr ((2 : ℚ) ^ (-p : Int)) (roundQuot (scaleNum num e) (scaleDen den e)) (num / den / 2 ^ e) :=
    hround.trans hbig
  convert hman.mul_left (signFactor sign * (2 : ℚ) ^ (e + e0)) using 1
  · ring
  · rw [zpow_add₀ two_ne_zero]
    field_simp

/-! ### The rendering -/

theorem ieeeOps_ofDecimal (p milliVolts : Nat) : (ieeeOps p).ofDecimal milliVolts = Fp.round p false milliVolts 1000 0 := rfl

theorem ieeeOps_ofNat (p n : Nat) : (ieeeOps p).ofNat n = Fp.round p false n 1 0 := rfl

theorem ieeeOps_mul (p : Nat) (a b : Fp) :
    (ieeeOps p).mul a b = Fp.round p (a.sign != b.sign) (a.man * b.man) 1 (a.exp + b.exp) := rfl

theorem ieeeOps_div (p : Nat) (a b : Fp) :
    (ieeeOps p).div a b = Fp.round p (a.sign != b.sign) a.man b.man (a.exp - b.exp) := rfl

theorem ieeeOps_neg (p : Nat) (a : Fp) : (ieeeOps p).neg a = { a with sign := !a.sign } := rfl

theorem neg_value (p : Nat) (a : Fp) : ((ieeeOps p).neg a).value = -a.value := by
  simp [ieeeOps_neg, Fp.value_eq]

theorem render_false {F : Type} (ops : FloatOps F) (fsr mag : Nat) :
    render ops false fsr mag = ops.div (ops.mul (ops.ofDecimal fsr) (ops.ofNat mag)) (ops.ofNat 32768) := rfl

theorem render_true {F : Type} (ops : FloatOps F) (fsr mag : Nat) :
    render ops true fsr mag = ops.neg (render ops false fsr mag) := rfl

section Operations

variable {p : Nat} (hp : 1 ≤ p)
include hp

theorem ofDecimal_relErr (milliVolts : Nat) :
    RelErr ((2 : ℚ) ^ (-p : Int)) ((ieeeOps p).ofDecimal milliVolts).value (milliVolts / 1000) := by
  simpa [ieeeOps_ofDecimal, signFactor] using Fp.round_relErr hp (den := 1000) (by decide) false milliVolts 0

theorem ofNat_relErr (n : Nat) : RelErr ((2 : ℚ) ^ (-p : Int)) ((ieeeOps p).ofNat n).value n := by
  simpa [ieeeOps_ofNat, signFactor] using Fp.round_relErr hp one_ne_zero false n 0

theorem mul_relErr (a b : Fp) :
    RelErr ((2 : ℚ) ^ (-p : Int)) ((ieeeOps p).mul a b).value (a.value * b.value) := by
  rw [ieeeOps_mul]
  convert Fp.round_relErr hp one_ne_zero (a.sign != b.sign) (a.man * b.man) (a.exp + b.exp) using 1
  rw [a.value_eq, b.value_eq, signFactor_bne, zpow_add₀ two_ne_zero]
  push_cast
  ring

theorem div_relErr (a : Fp) {b : Fp} (hb : b.man ≠ 0) :
    RelErr ((2 : ℚ) ^ (-p : Int)) ((ieeeOps p).div a b).value (a.value * b.value⁻¹) := by
  rw [ieeeOps_div]
  convert Fp.round_relErr hp hb (a.sign != b.sign) a.man (a.exp - b.exp) using 1
  rw [a.value_eq, b.value_eq, signFactor_bne, zpow_sub₀ two_ne_zero, mul_inv, mul_inv, inv_signFactor]
  ring

theorem ofNat_man_ne_zero {n : Nat} (hn : n ≠ 0) : ((ieeeOps p).ofNat n).man ≠ 0 := by
  rw [ieeeOps_ofNat]
  exact ((Nat.two_pow_pos _).trans_le (Fp.round_man_range hp hn one_ne_zero false 0).1).ne'

/-- A rendering in `p` bits has a significand of `p` bits. -/
theorem render_normal (neg : Bool) (fsr mag : Nat) : (render (ieeeOps p) neg fsr mag).Normal p := by
  have hquot : (render (ieeeOps p) false fsr mag).Normal p := Fp.round_normal hp (ofNat_man_ne_zero hp (by decide)) _ _ _
  cases neg <;> exact hquot

end Operations

/-- The sign of a rendering is applied last. -/
theorem render_value (p : Nat) (neg : Bool) (fsr mag : Nat) :
    (render (ieeeOps p) neg fsr mag).value = signFactor neg * (render (ieeeOps p) false fsr mag).value := by
  cases neg
  · simp [signFactor]
  · rw [render_true, neg_value]
    simp [signFactor]

/-- In 24 bits or more the operations of the rendering lose at most `2 ^ -21` (R111). -/
theorem render_relErr {p : Nat} (hp : 24 ≤ p) (neg : Bool) (fsr mag : Nat) :
    RelErr (1 / 2 ^ 21) (render (ieeeOps p) neg fsr mag).value (signFactor neg * (mag * ((fsr : ℚ) / 1000) / 32768)) := by
  have hp1 : 1 ≤ p := by omega
  have hulp : (2 : ℚ) ^ (-p : Int) ≤ 1 / 2 ^ 24 :=
    calc (2 : ℚ) ^ (-p : Int) ≤ (2 : ℚ) ^ (-24 : Int) := zpow_le_zpow_right₀ one_le_two (by omega)
      _ = 1 / 2 ^ 24 := by norm_num
  have hconst := (ofDecimal_relErr hp1 fsr).mono hulp
  have hmag := (ofNat_relErr hp1 mag).mono hulp
  have hprod := ((mul_relErr hp1 _ _).mono hulp).trans (hconst.mul hmag (by norm_num)) (by norm_num)
  have hscale := ((ofNat_relErr hp1 32768).mono hulp).inv (by norm_num)
  have hquot := ((div_relErr hp1 _ (ofNat_man_ne_zero hp1 (by decide))).mono hulp).trans (hprod.mul hscale (by norm_num))
    (by norm_num)
  rw [render_value, render_false]
  convert (hquot.mono (δ := 1 / 2 ^ 21) (by norm_num)).mul_left (signFactor neg) using 2
  push_cast
  ring

/-! ### The stored pattern -/

/-- The three fields of a pattern put together from its sign, exponent and fraction. -/
theorem binary32_fields (sign : Bool) {e f : Nat} (he : e < 256) (hf : f < 2 ^ 23) {w : BitVec 32}
    (hw : w = BitVec.ofNat 32 ((if sign then 2 ^ 31 else 0) + (e * 2 ^ 23 + f))) :
    (w.extractLsb' 23 8).toNat = e ∧ (w.extractLsb' 0 23).toNat = f ∧ w.getLsbD 31 = sign := by
  have htoNat : w.toNat = (if sign then 2 ^ 31 else 0) + (e * 2 ^ 23 + f) := by
    rw [hw, BitVec.toNat_ofNat, Nat.mod_eq_of_lt]
    split <;> omega
  have hmsb : w.getLsbD 31 = decide (2 ^ 31 ≤ w.toNat) := (BitVec.msb_eq_getLsbD_last w).symm.trans (BitVec.msb_eq_decide w)
  rw [hmsb, BitVec.extractLsb'_toNat, BitVec.extractLsb'_toNat, htoNat, Nat.shiftRight_eq_div_pow, Nat.shiftRight_eq_div_pow]
  cases sign
  · simp only [Bool.false_eq_true, if_false, decide_eq_false_iff_not]
    omega
  · simp only [if_true, decide_eq_true_eq]
    omega

/-- The value of a normal pattern (IEEE 754). -/
theorem binary32Value_normal (sign : Bool) {e f : Nat} (he : e < 256) (he0 : e ≠ 0) (hf : f < 2 ^ 23) :
    binary32Value (BitVec.ofNat 32 ((if sign then 2 ^ 31 else 0) + (e * 2 ^ 23 + f))) =
      signFactor sign * (((2 ^ 23 + f : Nat) : ℚ) * (2 : ℚ) ^ ((e : Int) - 150)) := by
  obtain ⟨hexp, hfrac, hsign⟩ := binary32_fields sign he hf rfl
  simp only [binary32Value, hexp, hfrac, hsign, if_neg he0]
  rfl

/-- The value of the pattern of a zero. -/
theorem binary32Value_zero (sign : Bool) : binary32Value (BitVec.ofNat 32 (if sign then 2 ^ 31 else 0)) = 0 := by
  obtain ⟨hexp, hfrac, -⟩ := binary32_fields sign (e := 0) (f := 0) (by decide) (by decide) rfl
  simp only [zero_mul, add_zero] at hexp hfrac
  simp only [binary32Value, hexp, hfrac]
  simp

/-- The pattern of a float with an exponent in the range of the normal numbers has the value of the float: a significand of `2 ^ 24`
carries into the exponent field. -/
theorem Fp.binary32Value_bits32_of_exp {x : Fp} (hmin : 2 ^ 23 ≤ x.man) (hmax : x.man ≤ 2 ^ 24) {e : Nat} (he : x.exp = e - 150)
    (he0 : e ≠ 0) (he1 : e < 255) : binary32Value x.bits32 = x.value := by
  obtain ⟨f, hman⟩ := Nat.exists_eq_add_of_le hmin
  have hbits : x.bits32 = BitVec.ofNat 32 ((if x.sign then 2 ^ 31 else 0) + (e * 2 ^ 23 + f)) := by
    have hsum : (x.exp + 150).toNat * 2 ^ 23 + x.man - 2 ^ 23 = e * 2 ^ 23 + f := by
      rw [he, hman, Int.sub_add_cancel, Int.toNat_natCast]
      omega
    have hman0 : x.man ≠ 0 := by omega
    rw [bits32, if_neg hman0, hsum]
  rw [hbits, value_eq, he, hman, mul_assoc]
  rcases Nat.lt_or_ge f (2 ^ 23) with hf | hf
  · rw [binary32Value_normal x.sign (by omega) he0 hf]
  · obtain rfl : f = 2 ^ 23 := by omega
    have hcarry : e * 2 ^ 23 + 2 ^ 23 = (e + 1) * 2 ^ 23 + 0 := by ring
    have hpow : (2 : ℚ) ^ (((e + 1 : Nat) : Int) - 150) = 2 * (2 : ℚ) ^ ((e : Int) - 150) := by
      rw [← zpow_one_add₀ two_ne_zero]
      congr 1
      push_cast
      ring
    rw [hcarry, binary32Value_normal x.sign (by omega) (by omega) (by decide), hpow]
    push_cast
    ring

/-- The pattern of a float that is zero or in the range of the normal binary32 numbers has the value of the float. -/
theorem Fp.binary32Value_bits32 {x : Fp} (hnormal : x.Normal 24) (hlow : x.value ≠ 0 → (2 : ℚ) ^ (-125 : Int) ≤ |x.value|)
    (hhigh : |x.value| < (2 : ℚ) ^ (127 : Int)) : binary32Value x.bits32 = x.value := by
  rcases hnormal with hzero | ⟨hmin, hmax⟩
  · rw [bits32, value_eq, if_pos hzero, hzero, add_zero, binary32Value_zero]
    simp
  have hmin' : (2 : ℚ) ^ (23 : Int) ≤ x.man := by exact_mod_cast hmin
  have hmax' : (x.man : ℚ) ≤ (2 : ℚ) ^ (24 : Int) := by exact_mod_cast hmax
  have hpos : 0 < |x.value| := by
    rw [abs_value]
    have : (0 : ℚ) < x.man := lt_of_lt_of_le (by positivity) hmin'
    positivity
  replace hlow := hlow (abs_pos.mp hpos)
  rw [abs_value] at hlow hhigh
  have hexp_low : -125 ≤ 24 + x.exp := by
    rw [← zpow_le_zpow_iff_right₀ (one_lt_two (α := ℚ)), zpow_add₀ two_ne_zero]
    exact hlow.trans (by gcongr)
  have hexp_high : 23 + x.exp < 127 := by
    rw [← zpow_lt_zpow_iff_right₀ (one_lt_two (α := ℚ)), zpow_add₀ two_ne_zero]
    exact lt_of_le_of_lt (by gcongr) hhigh
  exact binary32Value_bits32_of_exp hmin hmax (e := (x.exp + 150).toNat) (by omega) (by omega) (by omega)

/-- The exact value in volts as a rational number (R110). -/
def exactRat (raw : Word) (fsr : Nat) : ℚ := (raw.toInt : ℚ) * ((fsr : ℚ) / 1000) / 32768

/-- Sign and magnitude give the exact value (R107). -/
theorem sign_magnitude_exactRat (raw : Word) (fsr : Nat) :
    signFactor (isNegative raw) * (magnitude raw * ((fsr : ℚ) / 1000) / 32768) = exactRat raw fsr := by
  obtain ⟨hsign, -⟩ := signMagnitudeIsTwosComplement raw
  rw [exactRat, ← hsign, signFactor]
  split <;> push_cast <;> ring

/-- An exact value is at most the full scale, 32768 LSB. -/
theorem abs_exactRat_le (raw : Word) (fsr : Nat) : |exactRat raw fsr| ≤ (fsr : ℚ) / 1000 := by
  obtain ⟨-, hmag, -⟩ := signMagnitudeIsTwosComplement raw
  have hmag' : (magnitude raw : ℚ) ≤ 32768 := by exact_mod_cast hmag
  rw [← sign_magnitude_exactRat, abs_mul, abs_signFactor, one_mul, abs_of_nonneg (by positivity), div_le_iff₀ (by norm_num),
    mul_comm]
  gcongr

/-- An exact value other than zero is at least one LSB. -/
theorem le_abs_exactRat {raw : Word} (hraw : raw.toInt ≠ 0) (fsr : Nat) : (fsr : ℚ) / 1000 / 32768 ≤ |exactRat raw fsr| := by
  have hone : (1 : ℚ) ≤ |(raw.toInt : ℚ)| := by exact_mod_cast Int.one_le_abs hraw
  rw [exactRat, abs_div, abs_mul, abs_of_nonneg (by positivity : 0 ≤ (fsr : ℚ) / 1000), Nat.abs_ofNat]
  gcongr
  exact le_mul_of_one_le_left (by positivity) hone

/-- A float within a relative error of `2 ^ -20` of the exact value is within one LSB of it, since that is at most 32768 LSB. -/
theorem within_lsb {x : ℚ} {raw : Word} {fsr : Nat} (h : RelErr (1 / 2 ^ 20) x (exactRat raw fsr)) :
    |x - exactRat raw fsr| ≤ (fsr : ℚ) / 1000 / 32768 := by
  have hfull := abs_exactRat_le raw fsr
  calc |x - exactRat raw fsr| ≤ 1 / 2 ^ 20 * |exactRat raw fsr| := h
    _ ≤ 1 / 32768 * ((fsr : ℚ) / 1000) := by gcongr; norm_num
    _ = (fsr : ℚ) / 1000 / 32768 := by ring

/-- A float within that error of an exact value of the table has a binary32 pattern of its own value: no result is subnormal and
none overflows (R111). -/
theorem binary32Value_of_relErr {g fsr : Nat} {x : Fp} {raw : Word} (hg : fullScale g = some fsr) (hnormal : x.Normal 24)
    (h : RelErr (1 / 2 ^ 20) x.value (exactRat raw fsr)) : binary32Value x.bits32 = x.value := by
  obtain ⟨hmin, hmax⟩ := fullScale_range hg
  have hmin' : (256 : ℚ) ≤ fsr := by exact_mod_cast hmin
  have hmax' : (fsr : ℚ) ≤ 6144 := by exact_mod_cast hmax
  refine Fp.binary32Value_bits32 hnormal (fun hne => ?_) ?_
  · have hraw : raw.toInt ≠ 0 := by
      intro hzero
      have habs := h.abs_le
      simp [exactRat, hzero, hne] at habs
    have hlsb := le_abs_exactRat hraw fsr
    calc (2 : ℚ) ^ (-125 : Int) ≤ (1 - 1 / 2 ^ 20) * (256 / 1000 / 32768) := by norm_num
      _ ≤ (1 - 1 / 2 ^ 20) * ((fsr : ℚ) / 1000 / 32768) := by gcongr
      _ ≤ (1 - 1 / 2 ^ 20) * |exactRat raw fsr| := by gcongr
      _ ≤ |x.value| := h.le_abs
  · have hfull := abs_exactRat_le raw fsr
    calc |x.value| ≤ (1 + 1 / 2 ^ 20) * |exactRat raw fsr| := h.abs_le
      _ ≤ (1 + 1 / 2 ^ 20) * (6144 / 1000) := by gcongr; linarith
      _ < (2 : ℚ) ^ (127 : Int) := by norm_num

/-- Rounding a float once more to 24 bits (log 16). -/
theorem rounded_relErr (x : Fp) : RelErr (1 / 2 ^ 24) (Fp.round 24 x.sign x.man 1 x.exp).value x.value := by
  simpa [Fp.value_eq x] using Fp.round_relErr (p := 24) (by decide) one_ne_zero x.sign x.man x.exp

/-- Settles O47: each rounding has a small relative error, so the whole rendering has; such a float lies in the range in which its
pattern has its value. -/
theorem defaultFloatWithinOneLsb : Obligations.DefaultFloatWithinOneLsb := by
  intro g fsr raw hg
  have hrender : ∀ p ≥ 24,
      RelErr (1 / 2 ^ 21) (render (ieeeOps p) (isNegative raw) fsr (magnitude raw)).value (exactRat raw fsr) :=
    fun p hp => sign_magnitude_exactRat raw fsr ▸ render_relErr hp _ _ _
  have hsingle := (hrender 24 (by decide)).mono (δ := 1 / 2 ^ 20) (by norm_num)
  have hdouble := ((rounded_relErr _).trans (hrender 53 (by decide)) (by norm_num)).mono (δ := 1 / 2 ^ 20) (by norm_num)
  have hsingleBits := binary32Value_of_relErr hg (render_normal (by decide) _ _ _) hsingle
  have hdoubleBits := binary32Value_of_relErr hg (Fp.round_normal (by decide) one_ne_zero _ _ _) hdouble
  refine ⟨fun f hf => ?_, within_lsb hsingle⟩
  simp only [List.mem_cons, List.not_mem_nil, or_false] at hf
  rcases hf with rfl | rfl
  · exact ⟨_, rfl, hsingleBits ▸ within_lsb hsingle, fun _ => hsingleBits⟩
  · exact ⟨_, rfl, hdoubleBits ▸ within_lsb hdouble, by simp⟩

end Sys2Proof.Machine
end

section
/-! PROOFS. 60_exceptions.md: the errors found before anything else is done, in a malformed command word, without a handle and in a
field value outside its enumeration; and the poll loop that has no bound. -/

namespace Sys2Proof

/-! ### Malformed command words -/

/-- The op of a command word is what stands above its 16 operand bits (30_encoding.md R69). -/
theorem commandOp_toNat (w : BitVec 20) : (commandOp w).toNat = (w >>> 16).toNat := by
  rw [commandOp, BitVec.extractLsb'_toNat, BitVec.toNat_ushiftRight]
  exact Nat.mod_eq_of_lt (by omega)

/-- The operand bits that a 7-bit address leaves free are bits 15..7 of the command word (R69). -/
theorem commandOperand_ushiftRight_seven (w : BitVec 20) : commandOperand w >>> 7 = (w.extractLsb' 7 9).setWidth 16 := by
  apply BitVec.eq_of_toNat_eq
  simp only [commandOperand, BitVec.toNat_ushiftRight, BitVec.extractLsb'_toNat, BitVec.toNat_setWidth, Nat.shiftRight_eq_div_pow]
  omega

/-- What makes a command word malformed (R72). -/
def MalformedCommand (w : BitVec 20) : Prop :=
  9 ≤ (w >>> 16).toNat ∨ (5 ≤ (w >>> 16).toNat ∧ (w >>> 16).toNat ≤ 7 ∧ w.extractLsb' 0 16 ≠ 0#16) ∨
    ((w >>> 16).toNat = 0 ∧ w.extractLsb' 7 9 ≠ 0#9)

/-- The rejections of the decoder that concern the command word (R72). -/
def Reject.ofCommand : List Reject := [.reservedOp, .operandNotZero, .addressTooWide]

/-- A malformed command word is rejected as one (R72). -/
theorem decodeCommand_malformed {w : BitVec 20} (h : MalformedCommand w) :
    ∃ r ∈ Reject.ofCommand, decodeCommand w = .rejected r := by
  rw [MalformedCommand, ← commandOp_toNat] at h
  rcases h with hop | ⟨hlow, hhigh, hv⟩ | ⟨hop, hv⟩
  · refine ⟨.reservedOp, by decide, ?_⟩
    unfold decodeCommand
    split
    case h_10 => rfl
    all_goals omega
  · have hbare : ∀ i, decodeBare i (commandOperand w) = .rejected .operandNotZero := fun i => if_neg hv
    refine ⟨.operandNotZero, by decide, ?_⟩
    have hop : (commandOp w).toNat = 5 ∨ (commandOp w).toNat = 6 ∨ (commandOp w).toNat = 7 := by omega
    rcases hop with hop | hop | hop <;> simp [decodeCommand, hop, hbare]
  · have hwide : commandOperand w >>> 7 ≠ 0#16 := by
      rw [commandOperand_ushiftRight_seven]
      bv_omega
    exact ⟨.addressTooWide, by decide, by simp [decodeCommand, hop, hwide]⟩

end Sys2Proof

namespace Sys2Proof.Machine

/-- An idle block before an item whose rejection ends the step ends it in that state. -/
theorem step_of_presented_rejected {s t : State} {it : Item} {r : Reject} (hseq : s.seq = .idle)
    (hev : s.inputs.event = .turn .block) (hp : s.presented = some it) (hd : decode it = .rejected r)
    (ht : rejectTurn r s.dropEvent.taken = .done t) : step s = .next t := by
  rw [step, turn_of_presented hseq hev hp, itemTurn, hd]
  simp only [ht]

/-- Taking up what is presented leaves the block idle. -/
theorem taken_dropEvent_idle {s : State} (hseq : s.seq = .idle) : s.dropEvent.taken.seq = .idle :=
  (State.taken_seq _).trans hseq

/-- A malformed command word ends with IllegalCommand, and no handle is asked for (60_exceptions.md R124, R126). -/
theorem rejectTurn_ofCommand {r : Reject} (hr : r ∈ Reject.ofCommand) (s : State) :
    rejectTurn r s = .done (s.raise .illegalCommand) := by
  simp only [Reject.ofCommand, List.mem_cons, List.not_mem_nil, or_false] at hr
  rcases hr with rfl | rfl | rfl <;> rfl

/-- Settles O9: the decoder rejects the word, and the turn of each such rejection raises IllegalCommand. -/
theorem malformedCommandIsIllegal : Obligations.MalformedCommandIsIllegal := by
  intro s w rest hseq hb hp hev hw
  obtain ⟨r, hr, hd⟩ := decodeCommand_malformed hw
  rw [step_of_presented_rejected hseq hev (presented_of_port hb hp) hd (rejectTurn_ofCommand hr _),
    raise_of_idle _ (taken_dropEvent_idle hseq), taken_of_port (s := s.dropEvent) hb hp]
  rfl

/-! ### No handle -/

/-- Every operation but Initialize begins with the handle check (R123). -/
theorem exec_eq_withHandle {v : Word} {i : Instr} (hi : i ∈ (operations v).tail) (s : State) :
    ∃ f, exec i s = .next (s.withHandle f) := by
  simp only [operations, List.tail_cons, List.mem_cons, List.not_mem_nil, or_false] at hi
  rcases hi with rfl | rfl | rfl | rfl | rfl | rfl | rfl | rfl <;> exact ⟨_, rfl⟩

/-- Settles O28: without a handle the check that each of the operations begins with raises NoHandle. -/
theorem noHandleBeforeInitialize : Obligations.NoHandleBeforeInitialize := by
  intro v s hn i hi
  obtain ⟨f, he⟩ := exec_eq_withHandle hi s
  rw [he, withHandle_none f hn]
  rfl

/-! ### Field values -/

/-- An instruction whose encoding is a field value (30_encoding.md R57) is that field's setter with that operand (log 11). -/
theorem exec_of_encode_value {i : Instr} {f : Field} {v : Word} (he : encode i = .value f v) (s : State) :
    exec i s = .next (s.setField f v) := by
  cases i <;> cases he <;> rfl

/-- Every named value is in its field's enumeration (30_encoding.md R64). -/
theorem legal_of_encode_value {i : Instr} {f : Field} {v : Word} (he : encode i = .value f v) : f.legal v = true := by
  cases i <;> cases he <;> rfl

/-- With a handle a named value replaces its field in the mirror; `outside` is the complement of the field's mask (40_field_setters.md
R75). -/
theorem exec_namedValue {i : Instr} {f : Field} {v outside : Word} {s : State} {h : Handle} (hh : s.handle = some h)
    (he : encode i = .value f v) (ho : ~~~f.mask = outside) :
    exec i s =
      .next { s with handle := some { h with cfg := (h.cfg &&& outside) ||| v }, sync := .dirty, err := .ok } := by
  rw [exec_of_encode_value he, setField_legal hh (legal_of_encode_value he), ← ho]
  rfl

/-- A value outside its field's enumeration is rejected as its setter rejects it (R120, R126; log 17). -/
theorem withHandle_invalidFieldValue {s : State} (hs : s.seq = .idle) :
    (s.withHandle fun _ => s.raise .invalidFieldValue) =
      { s with err := if s.inited then .invalidFieldValue else .noHandle } := by
  cases hh : s.handle with
  | none => rw [withHandle_none _ hh, raise_of_idle _ hs]; simp [State.inited, hh]
  | some h => rw [withHandle_some _ hh, raise_of_idle _ hs]; simp [State.inited, hh]

/-- Settles O16: a named value is its field's setter with a legal operand; any other value decodes to a rejection, whose turn asks for
the handle first. -/
theorem fieldValueRowsSelectValue : Obligations.FieldValueRowsSelectValue := by
  refine ⟨fun s hn i hi => ?_, fun s h hh => ⟨fun p hp => ?_, fun p hp => ?_, fun p hp => ?_, fun p hp => ?_⟩,
    fun s f v rest hseq hev hb hl => ?_⟩
  · have hvalue : ∃ f v, encode i = .value f v := by
      revert i
      simp [encode]
    obtain ⟨f, v, he⟩ := hvalue
    rw [exec_of_encode_value he, setField_none f v hn]
    rfl
  · exact exec_namedValue hh (by revert p; decide) (f := .mux) rfl
  · exact exec_namedValue hh (by revert p; decide) (f := .pga) rfl
  · exact exec_namedValue hh (by revert p; decide) (f := .mode) rfl
  · exact exec_namedValue hh (by revert p; decide) (f := .dr) rfl
  · have hd : decode (.value f v) = .rejected .notInEnumeration := if_neg (by simp [hl])
    rw [step_of_presented_rejected hseq hev (presented_of_bench hb) hd rfl,
      withHandle_invalidFieldValue (taken_dropEvent_idle hseq), taken_of_bench (s := s.dropEvent) hb]
    rfl

/-! ### The poll loop without a bound -/

/-- With no bound and a device that does not complete, each of the next `n` turns of the block is a busy poll (R129). -/
theorem run_unboundedPolls {n : Nat} {s : State} {h : Handle} (hh : s.handle = some h) (hs : s.seq = .polling)
    (hm : s.maxPoll = none) (hsingle : s.dev.singleShot = true) (hb : s.dev.busy = true)
    (hi : s.inputs.Scripted (List.replicate n .block) n) :
    ∃ t, Sys2Proof.core.run n s = .next t ∧ t.seq = .polling ∧ t.polls = s.polls + n ∧ t.err = s.err ∧ t.dev.busy = true := by
  induction n generalizing s h with
  | zero => exact ⟨s, rfl, hs, rfl, rfl, hb⟩
  | succ n ih =>
    have hstep : step s = .next (s.pollRead h false) := by
      simpa [hb] using step_pollRead hh hs (by simp [hm]) hsingle (a := .block) ⟨nofun, nofun⟩ hi
    obtain ⟨t, hrun, hseq, hpolls, herr, hbusy⟩ := ih (s := s.pollRead h false) rfl rfl hm hsingle hb hi.dropEvent.dropAnswer
    exact ⟨t, (run_succ n hstep).trans hrun, hseq, hpolls.trans (Nat.succ_add_eq_add_succ _ _), herr, hbusy⟩

/-- Settles O35: the scripted turns and answers are those of `n` busy polls. -/
theorem unboundedPollNeverEnds : Obligations.UnboundedPollNeverEnds := by
  intro n s h events answers hh hs hm hsingle hb hevents hanswers
  exact run_unboundedPolls hh hs hm hsingle hb ⟨⟨events, by simpa using hevents⟩, ⟨answers, hanswers⟩⟩

end Sys2Proof.Machine
end

section
/-! PROOFS. 70_reset_and_hazards.md: what each of the two resets sets, and what it leaves. -/

namespace Sys2Proof.Machine

/-- A step at a block reset is the block reset (R140). -/
theorem step_blockReset {s : State} (he : s.inputs.event = .blockReset) : step s = .next s.dropEvent.blockReset := by
  simp [step, turn, he, eventTurn]

/-- A step at a device reset is the device reset (R139). -/
theorem step_deviceReset {s : State} (he : s.inputs.event = .deviceReset) : step s = .next s.dropEvent.deviceReset := by
  simp [step, turn, he, eventTurn]

/-- After a device reset a configuration read reports that no conversion is in progress (20_memory.md R43). -/
theorem deviceReset_statusBit (s : State) : s.deviceReset.statusBit = true := by
  simp [State.statusBit, deviceReset_singleShot]

/-- A configuration read after a device reset returns 0x8583, whatever the device held before (R139). -/
theorem deviceReset_deviceRead_config (s : State) : s.deviceReset.deviceRead .config = 0x8583#16 := by
  rw [deviceRead_config, deviceReset_statusBit, State.deviceReset_config]
  decide

/-- Settles O60: the block reset writes no field of the device and the device reset none of the block, and a configuration read
after the latter sees single-shot mode and no conversion. -/
theorem resetsAreIndependent : Obligations.ResetsAreIndependent := by
  intro s
  constructor
  · intro he
    exact ⟨s.dropEvent.blockReset, step_blockReset he, rfl, rfl⟩
  · intro he
    exact ⟨s.dropEvent.deviceReset, step_deviceReset he, State.deviceReset_config _, State.deviceReset_busy _,
      deviceReset_deviceRead_config _, rfl⟩

end Sys2Proof.Machine
end

section
/-! PROOFS. The statements over several of the spec's files: the fixed words of 30_encoding.md, the block's turn while a ReadSample is in
progress, the bus frames on their own (log 10), and the invariants at reset. -/

namespace Sys2Proof

/-! ### Fixed words -/

/-- The encoding of a well-formed instruction decodes to it (30_encoding.md R69, R70). -/
theorem decode_of_encode_eq {i : Instr} {it : Item} (hwf : i.WellFormed) (he : encode i = it) : decode it = .instr i :=
  he ▸ decodeEncodeRoundTrip i hwf

/-- Settles O3: a row that gives an instruction is that instruction's encoding, and the other rows are computed. -/
theorem commandWordsDecodeAsTable : Obligations.CommandWordsDecodeAsTable := by
  refine ⟨?_, ?_, ?rejectedWide, ?_, ?_, ?_, ?_, ?_, ?rejectedCommit, ?_, ?_, ?rejectedReadSample, ?_, ?_, ?rejectedFirst,
    ?rejectedLast, ?_, ?_, ?_⟩
  case rejectedWide | rejectedCommit | rejectedReadSample | rejectedFirst | rejectedLast => decide
  all_goals exact decode_of_encode_eq rfl rfl

/-- Settles O4: the six masks are the listed values, whose OR and sum are computed. -/
theorem fieldMasksPartitionWord : Obligations.FieldMasksPartitionWord :=
  ⟨by decide, by decide, rfl⟩

end Sys2Proof

namespace Sys2Proof.Machine

/-! ### The block's turn while a ReadSample is in progress -/

/-- Settles O8: the turn falls to the block, and it is the next transition of the ReadSample. -/
theorem stepContinuesReadSample : Obligations.StepContinuesReadSample :=
  fun _ hs he => step_sampling he ⟨nofun, nofun⟩ hs

/-! ### The write frame on its own -/

/-- Without a handle the write frame is not sent (R123; log 10). -/
theorem exec_regWrite_none (v : Word) {s : State} (hh : s.handle = none) :
    exec (.regWrite v) s = .next (s.raise .noHandle) :=
  congrArg _ (withHandle_none _ hh)

/-- The write frame that the transport answers with success is its register write (20_memory.md R37). -/
theorem exec_regWrite_ok (v : Word) {s : State} {h : Handle} (hh : s.handle = some h) (ha : s.inputs.answer = .ok) :
    exec (.regWrite v) s = .next (s.writeDone h.addr v).respond :=
  congrArg _ ((withHandle_some _ hh).trans (memWrite_ok _ _ _ _ ha))

/-- The write frame that fails leaves the device as a failed register write does (20_memory.md R46). -/
theorem exec_regWrite_error (v : Word) {s : State} {h : Handle} (hh : s.handle = some h)
    (ha : s.inputs.answer = .transportError) :
    exec (.regWrite v) s = .next ((s.writeFailed h.addr v).raise .transportError) :=
  congrArg _ ((withHandle_some _ hh).trans (memWrite_error _ _ _ _ ha))

/-- Settles O26: the handle check, then the one register write, done or failed, and the error code. -/
theorem writeFrameEffect : Obligations.WriteFrameEffect := by
  intro v s h
  refine ⟨exec_regWrite_none v, fun hh ha => ?_, fun hh ha => ?_⟩
  · rw [exec_regWrite_ok v hh ha, writeDone_eq]
    rfl
  · rw [exec_regWrite_error v hh ha]
    rfl

/-! ### The read frames on their own -/

/-- The read frame of a register (30_encoding.md R67). -/
def Reg.readFrame : Reg → Instr
  | .conversion => .regReadConversion
  | .config => .regReadConfig

/-- A read frame is the read of its register, after the handle check (log 10). -/
theorem exec_readFrame (r : Reg) (s : State) :
    exec r.readFrame s =
      .next (s.withHandle fun h => s.memRead h.addr r (fun t => t.raise .transportError) (fun _ t => t.respond)) := by
  cases r <;> rfl

/-- Without a handle a read frame is not sent (R123; log 10). -/
theorem exec_readFrame_none (r : Reg) {s : State} (hh : s.handle = none) : exec r.readFrame s = .next (s.raise .noHandle) := by
  rw [exec_readFrame, withHandle_none _ hh]

/-- A read frame that the transport answers with success is its register read (20_memory.md R38). -/
theorem exec_readFrame_ok (r : Reg) {s : State} {h : Handle} (hh : s.handle = some h) (ha : s.inputs.answer = .ok) :
    exec r.readFrame s = .next (s.readDone h.addr r).respond := by
  rw [exec_readFrame, withHandle_some _ hh, memRead_ok _ _ _ _ ha]

/-- A read frame that fails leaves the device (20_memory.md R38). -/
theorem exec_readFrame_error (r : Reg) {s : State} {h : Handle} (hh : s.handle = some h)
    (ha : s.inputs.answer = .transportError) :
    exec r.readFrame s = .next ((s.readFailed h.addr r).raise .transportError) := by
  rw [exec_readFrame, withHandle_some _ hh, memRead_error _ _ _ _ ha]

/-- Settles O27: each of the two frames is the frame of its register, whose read is refused, failed or done. -/
theorem readFramesEffect : Obligations.ReadFramesEffect := by
  intro s h
  refine ⟨fun hh => ?_, fun hh ha => ?_, exec_readFrame_ok .config, exec_readFrame_ok .conversion⟩
  · simp only [List.forall_mem_cons]
    exact ⟨exec_readFrame_none .config hh, exec_readFrame_none .conversion hh, nofun⟩
  · simp only [List.forall_mem_cons]
    exact ⟨exec_readFrame_error .config hh ha, exec_readFrame_error .conversion hh ha, nofun⟩

/-! ### The invariants at reset -/

/-- With no bound on the polls there is none to exceed. -/
theorem pollBounded_of_unbounded {s : State} (h : s.maxPoll = none) : PollBounded s := by
  simp [PollBounded, h]

/-- With nothing on the bench and nothing scripted the block alone writes. -/
theorem oneWriter_of_nothing_scripted {s : State} (hb : s.bench = []) (he : s.inputs.events = []) : OneWriter s := by
  simp [OneWriter, hb, he]

/-- With no call made there is none of another shape. -/
theorem busWellShaped_of_no_call {s : State} (h : s.trace = []) : BusWellShaped s := by
  simp [BusWellShaped, h]

/-- Settles O59: at reset the sequencer is Idle, `SYNC` is Dirty, the polls are unbounded, and nothing is scripted or on the bus. -/
theorem resetMeetsInvariants : Obligations.ResetMeetsInvariants :=
  ⟨sequencerSound_of_idle rfl, pollBounded_of_unbounded rfl, oneWriter_of_nothing_scripted rfl rfl, syncTruthful_of_dirty rfl,
    busWellShaped_of_no_call rfl⟩

end Sys2Proof.Machine
end
